-- ==== Sys2Proof/Word.lean ====
section
/-! DEFINITION. The words of the records and the plainest arithmetic of chapter 1. -/

namespace Sys2Proof

/-- The unit of every link record: 32 bits (00_scope.md, Units). -/
abbrev Word := BitVec 32

/-- Eight bits: kinds, codes and tags of records (R182, R185). -/
abbrev Byte := BitVec 8

/-- Exact division rounded up, the "ceil" of R1. -/
def divUp (a b : Nat) : Nat := (a + (b - 1)) / b

/-- The bound of `lo` to `hi` nearest to `n`, the clamp of R18. -/
def clampTo (lo hi n : Nat) : Nat := max lo (min hi n)

end Sys2Proof
end

