-- ==== Sys2Proof/Config.lean ====
section
/-! DEFINITION. What the LH512 fixes as sizes, and the one value the spec leaves free. -/

namespace Sys2Proof.Config

/-- Station indices run from 0 to 511 (R20). -/
abbrev stationCount : Nat := 512

/-- The Descriptor Pool has 8192 slots (R44). -/
def slotCount : Nat := 8192

/-- Request buffers of each link port (R158). -/
def bufferCount : Nat := 4

/-- Grant records of each grant table (R109). -/
def grantWindow : Nat := 2

/-- Visits allowed to one OFFER (R87). -/
def visitBudget : Nat := 32

/-- Frames allowed to one grant (R96). -/
def framesPerGrant : Nat := 64

/-- Saved profiles the profile stack can hold (R75). -/
def stackDepth : Nat := 4

/-- The largest value of a usage or borrowed counter, in µs (R16). -/
def counterMax : Nat := 16777215

/-- The largest overshoot a rollover carries, in µs (R17). -/
def carryMax : Nat := 32767

/-- The largest offered airtime an OFFER is served with, in µs (R8). -/
def offerMax : Nat := 8000

/-- The largest actual airtime a REPORT is corrected with, in µs (R13). -/
def airtimeMax : Nat := 16383

/-- Cycles of the part's 200 MHz clock in one µs (R156). -/
def cyclesPerUs : Nat := 200

/-- Cycles of the part's 200 MHz clock in one ms (R156). -/
def cyclesPerMs : Nat := 200000

/-- The time without an edge after which a radio's request clock is absent, in µs (R165). -/
def watchLimitUs : Nat := 100

/-- DESIGN CHOICE (log 4), safe: the place at which an expiry is put among the others of the same clock
cycle. R160 leaves their order open, so nothing is known of this value. -/
opaque expiryOrder : Nat → Nat

end Sys2Proof.Config
end

