-- ==== Sys2Proof/Syntax.lean ====
section
/-! DEFINITION. The commands the LH512 takes: one constructor for each row of
spec/opcode_table.json. A request carries the fields of its record at their record widths
(R184 to R187); a radio request carries the radio whose link it arrives on. -/

namespace Sys2Proof

/-- The two radios, named after their links. -/
inductive Radio where
  | a
  | b
  deriving DecidableEq, Repr

/-- The three links of the part (chapter 9). -/
inductive Link where
  | control
  | radio (r : Radio)
  deriving DecidableEq, Repr

/-- A station index in range, 0 to 511 (R20). -/
abbrev StationIndex := Fin Config.stationCount

/-- A group number in range, 0 to 3 (R64). -/
abbrev GroupIndex := Fin 4

/-- One entry of a QUEUE: a handle and a length field (R184). -/
structure QueueEntry where
  handle : Word
  length : BitVec 16
  deriving DecidableEq, Repr

/-- The group settings block as its record holds it (R186). -/
structure GroupBlock where
  ssidSet : BitVec 16
  roleLow : Byte
  roleHigh : Byte
  selector : Bool
  closed : Bool
  borrow : Bool
  retryLimit : BitVec 4
  releaseCount : Byte
  quantum : BitVec 16
  ceiling : BitVec 16
  holdTime : BitVec 16
  cap : BitVec 16
  lifetime : BitVec 16
  queueLimit : BitVec 16
  deriving DecidableEq, Repr

/-- The radio settings block as its record holds it (R186). -/
structure RadioBlock where
  epochLength : BitVec 32
  ppduOverhead : BitVec 16
  frameOverhead : Byte
  grantTimeout : BitVec 16
  defaultRate : BitVec 16
  deriving DecidableEq, Repr

/-- The device settings block as its record holds it (R186). -/
structure DeviceBlock where
  poolReserve : BitVec 16
  watermark : BitVec 16
  settleTime : BitVec 16
  freezeMode : BitVec 2
  deriving DecidableEq, Repr

/-- The commands. The first 25 are Control Link requests, the next five radio link requests (R160);
the rest are events of the ports, expiries of the part's timers and changes of its input lines. -/
inductive Instr where
  /-- ADMIT (R27, R28) -/
  | admitStation (index : BitVec 16) (ssid : Byte) (owner : BitVec 2) (pinned : Bool) (role : Byte)
      (weight : Byte) (rate : BitVec 16)
  /-- DISMISS (R30) -/
  | dismiss (index : BitVec 16)
  /-- TUNE (R34) -/
  | tune (index : BitVec 16) (weight : Byte)
  /-- REMATCH (R35) -/
  | rematch (index : BitVec 16)
  /-- PIN (R37) -/
  | pin (index : BitVec 16)
  /-- UNPIN (R37) -/
  | unpin (index : BitVec 16)
  /-- STATION READ (R38) -/
  | stationRead (index : BitVec 16)
  /-- STATION SCAN (R39) -/
  | stationScan (count : BitVec 4) (restart : Bool)
  /-- QUEUE (R48) -/
  | queue (index : BitVec 16) (entries : List QueueEntry)
  /-- PURGE (R57) -/
  | purge (index : BitVec 16)
  /-- COLLECT (R60) -/
  | collect (count : Byte)
  /-- GROUP SET (R65) -/
  | groupSet (group : Byte) (block : GroupBlock)
  /-- GROUP READ (R66) -/
  | groupRead (group : Byte)
  /-- PROFILE SAVE (R76) -/
  | profileSave
  /-- PROFILE RESTORE (R77) -/
  | profileRestore
  /-- RADIO SET (R103) -/
  | radioSet (radio : BitVec 2) (block : RadioBlock)
  /-- RADIO READ (R105) -/
  | radioRead (radio : BitVec 2)
  /-- STEER (R142) -/
  | steer (index : BitVec 16) (target : BitVec 2)
  /-- DEVICE SET (R180) -/
  | deviceSet (block : DeviceBlock)
  /-- DEVICE READ (R181) -/
  | deviceRead
  /-- EVENT READ (R172) -/
  | eventRead
  /-- EVENT CLEAR (R173) -/
  | eventClear (kinds : BitVec 10)
  /-- EVENT FORCE (R174) -/
  | eventForce (kinds : BitVec 10)
  /-- EVENT MASK (R175) -/
  | eventMask (kinds : BitVec 10)
  /-- DEVICE RESET (R169) -/
  | deviceReset
  /-- LINK START (R164) -/
  | linkStart (r : Radio)
  /-- OFFER (R86) -/
  | offer (r : Radio) (airtime : BitVec 16)
  /-- REPORT (R112) -/
  | report (r : Radio) (tag : Byte) (airtime : BitVec 16) (rate : BitVec 16)
      (outcomes : List (BitVec 2))
  /-- WITHDRAW (R120) -/
  | withdraw (r : Radio) (tag : Byte)
  /-- NOTE (R133) -/
  | note (r : Radio) (index : BitVec 16) (power : BitVec 2) (rate : BitVec 16)
  /-- A buffered record that fails check 1, 3 or 4 of R161, by its link and its kind byte (log 11). -/
  | malformedRecord (link : Link) (kind : Byte)
  /-- A record whose frame line falls before one whole word (R157) -/
  | recordWithoutHeader (link : Link)
  /-- A record begun while the ready line is low (R159) -/
  | recordWhileNotReady (link : Link)
  /-- The last word of an answer has been sent (R158) -/
  | answerSent (link : Link)
  /-- A station's hold timer expires (R131) -/
  | holdTimerExpiry (station : StationIndex)
  /-- A station's settle timer expires (R150) -/
  | settleTimerExpiry (station : StationIndex)
  /-- The timer of the grant of this radio with this tag expires (R121) -/
  | grantTimeout (r : Radio) (tag : Byte)
  /-- A radio's epoch timer expires (R72) -/
  | epochTimerExpiry (r : Radio)
  /-- The end of an unfrozen millisecond (R54) -/
  | millisecondClockAdvance
  /-- 100 µs without an edge of a radio's request clock (R165) -/
  | linkClockAbsent (r : Radio)
  /-- The reset input goes low (R168) -/
  | resetInputLow
  /-- The reset input returns high (R168) -/
  | resetInputHigh
  /-- The freeze input is asserted (R176) -/
  | freezeInputAsserted
  /-- The freeze input is released (R176) -/
  | freezeInputReleased
  /-- The first whole word of a request record (R158) -/
  | requestRecordBegins (link : Link)
  /-- A rising edge of a radio's request clock (R165) -/
  | requestClockEdge (r : Radio)
  deriving DecidableEq, Repr

end Sys2Proof
end

