-- ==== Sys2Proof/Machine/State.lean ====
section
/-! DEFINITION. Everything the LH512 holds, as plain data, and its values right after reset.
INVENTORY.md lists each field with its rule. -/

namespace Sys2Proof.Machine

/-- No command of the LH512 stops it: the part answers every refusal with a code and goes on (R182).
The type has one constructor so that it is not empty (log 20). -/
inductive Fault where
  /-- Raised by no command. Safe. -/
  | neverRaised
  deriving DecidableEq, Repr

/-- Why the model has no meaning for a command. Every command has one (log 20). -/
inductive Refusal where
  /-- A command of the table not modelled yet, by its mnemonic. Raised by no arm of `exec`. Safe. -/
  | notModelled (mnemonic : String)
  deriving DecidableEq, Repr

/-! ### Stations (chapter 2) -/

/-- The six station states of R22. -/
inductive StationState where
  | free | idle | holding | ready | granted | dozing
  deriving DecidableEq, Repr

/-- The power field of R136. -/
inductive Power where
  | awake | doze
  deriving DecidableEq, Repr

/-- The descriptor a slot in use holds (R43). The place of a slot is the list it stands in. -/
structure Slot where
  handle : Word
  length : Nat
  station : StationIndex
  stamp : BitVec 32
  retry : Nat
  deriving DecidableEq, Repr

/-- The notice reasons of R58. -/
inductive Reason where
  | delivered | retryLimit | expired | oversize | purged | dismissed
  deriving DecidableEq, Repr

/-- A RETIRED slot: the slot with its notice reason (R43, R58). -/
structure Notice where
  slot : Slot
  reason : Reason
  deriving DecidableEq, Repr

/-- One station record (R20) with the queue DPL holds for the station (R46). `settle` and `hold` are
remaining times in clock cycles (log 14); an optional field that is absent is `none`. -/
@[ext]
structure Station where
  state : StationState
  group : GroupIndex
  ssid : BitVec 4
  role : Byte
  owner : Radio
  pendingOwner : Option Radio
  settle : Option Nat
  pinned : Bool
  dismissMark : Bool
  power : Power
  weight : Nat
  rate : Nat
  deficit : Int
  queue : List Slot
  hold : Option Nat
  grantTag : Option Byte
  airtimeTotal : BitVec 32
  delivered : BitVec 32
  dropped : BitVec 32
  deriving DecidableEq, Repr

/-- The record of a FREE station after a device reset: the vacant values and counters 0 (R21). -/
def Station.vacant : Station where
  state := .free
  group := 0
  ssid := 0
  role := 0
  owner := .a
  pendingOwner := none
  settle := none
  pinned := false
  dismissMark := false
  power := .awake
  weight := 8
  rate := 0
  deficit := 0
  queue := []
  hold := none
  grantTag := none
  airtimeTotal := 0
  delivered := 0
  dropped := 0

/-! ### Groups (chapter 4) -/

/-- The thirteen settings of one group (R64); the role range is two fields. -/
structure GroupSettings where
  selector : Bool
  ssidSet : BitVec 16
  roleLow : Byte
  roleHigh : Byte
  closed : Bool
  quantum : Nat
  cap : Nat
  borrow : Bool
  ceiling : Nat
  holdTime : Nat
  releaseCount : Nat
  retryLimit : Nat
  lifetime : Nat
  queueLimit : Nat
  deriving DecidableEq, Repr

/-- The default settings of R64 for a group whose selector enable is `on`. -/
def GroupSettings.default (on : Bool) : GroupSettings where
  selector := on
  ssidSet := 0xFFFF
  roleLow := 0
  roleHigh := 255
  closed := false
  quantum := 1024
  cap := 1000
  borrow := true
  ceiling := 4000
  holdTime := 500
  releaseCount := 16
  retryLimit := 7
  lifetime := 0
  queueLimit := 256

/-- A full copy of the settings of all four groups (R75). -/
abbrev Profile := Vector GroupSettings 4

/-- The active profile after a device reset: group 3 alone has its selector on (R64). -/
def Profile.default : Profile :=
  #v[.default false, .default false, .default false, .default true]

/-- The epoch timer of one radio (R72). `remaining` is in clock cycles; `inForce` is the epoch length
in force in µs, absent while no epoch has started since the device reset. -/
structure EpochTimer where
  running : Bool
  remaining : Nat
  inForce : Option Nat
  deriving DecidableEq, Repr

/-! ### Schedulers and grant tables (chapters 5 and 6) -/

/-- The five radio settings (R102). -/
structure RadioSettings where
  epochLength : Nat
  ppduOverhead : Nat
  frameOverhead : Nat
  grantTimeout : Nat
  defaultRate : Nat
  deriving DecidableEq, Repr

/-- The default radio settings of R102. -/
def RadioSettings.default : RadioSettings where
  epochLength := 100000
  ppduOverhead := 60
  frameOverhead := 40
  grantTimeout := 20000
  defaultRate := 60

/-- The PASS reasons of R86 and R100. -/
inductive PassReason where
  | frozen | windowFull | noBacklog | capped | tooShort | searchLimit
  deriving DecidableEq, Repr

/-- The eight radio counters (R106). -/
structure RadioCounters where
  grantsFormed : BitVec 32
  passFrozen : BitVec 32
  passWindowFull : BitVec 32
  passNoBacklog : BitVec 32
  passCapped : BitVec 32
  passTooShort : BitVec 32
  passSearchLimit : BitVec 32
  timeouts : BitVec 32
  deriving DecidableEq, Repr

/-- All radio counters 0, as after a device reset (R106). -/
def RadioCounters.zero : RadioCounters := ⟨0, 0, 0, 0, 0, 0, 0, 0⟩

/-- The pass in which a grant was formed (R108). -/
inductive PassKind where
  | cap | borrow
  deriving DecidableEq, Repr

/-- A grant record (R108). `timer` is its remaining time in clock cycles (log 14). -/
@[ext]
structure Grant where
  tag : Byte
  station : StationIndex
  pass : PassKind
  group : GroupIndex
  frames : List Slot
  estimate : Nat
  budget : Nat
  rate : Nat
  timer : Nat
  deriving DecidableEq, Repr

/-! ### Answers (chapter 11) -/

/-- The answer codes, QUEUE outcomes and refusal codes of R182. `done` is ACCEPTED in an outcome. -/
inductive Code where
  | done | doneAdjusted | deferred
  | range | badLength | noStation | stationBusy | noGroup | groupClosed | queueLimit | poolFull
  | poolPressure | pinned | tooSoon | steering | stackFull | stackEmpty | malformed
  | linkDown | stale | mismatch | notOwner
  deriving DecidableEq, Repr

/-- The snapshot STATION READ and STATION SCAN return (R38); times in the whole units of R177. -/
structure Snapshot where
  index : StationIndex
  state : StationState
  group : GroupIndex
  ssid : BitVec 4
  role : Byte
  owner : Radio
  pinned : Bool
  power : Power
  weight : Nat
  rate : Nat
  deficit : Int
  pendingOwner : Option Radio
  settleMs : Option Nat
  holdUs : Option Nat
  grantTag : Option Byte
  dismissMark : Bool
  queueLength : Nat
  airtimeTotal : BitVec 32
  delivered : BitVec 32
  dropped : BitVec 32
  deriving DecidableEq, Repr

/-- The figures of one group in a RADIO READ answer (R105). -/
structure GroupFigures where
  usage : Nat
  cap : Nat
  borrowed : Nat
  ringLength : Nat
  deriving DecidableEq, Repr

/-- The figures RADIO READ returns (R105). -/
structure RadioFigures where
  radio : Radio
  linkUp : Bool
  settings : RadioSettings
  epochRunning : Bool
  epochRemainingUs : Nat
  epochInForce : Nat
  groups : List GroupFigures
  counters : RadioCounters
  nextTag : Byte
  grants : List (Byte × StationIndex)
  deriving DecidableEq, Repr

/-- The freeze mode (R176). -/
inductive FreezeMode where
  | run | halt
  deriving DecidableEq, Repr

/-- The four device settings (R179). -/
structure DeviceSettings where
  poolReserve : Nat
  watermark : Nat
  settleTime : Nat
  freezeMode : FreezeMode
  deriving DecidableEq, Repr

/-- The default device settings of R179. -/
def DeviceSettings.default : DeviceSettings where
  poolReserve := 512
  watermark := 64
  settleTime := 2000
  freezeMode := .run

/-- The figures DEVICE READ returns (R181). -/
structure DeviceFigures where
  settings : DeviceSettings
  free : Nat
  queued : Nat
  lent : Nat
  retired : Nat
  backlogged : Nat
  depth : Nat
  clock : BitVec 32
  linkAUp : Bool
  linkBUp : Bool
  freezeInput : Bool
  frozen : Bool
  deriving DecidableEq, Repr

/-- The body of a Control Link answer (R184). -/
inductive Body where
  | empty
  | stationGroup (index : StationIndex) (group : GroupIndex)
  | queueOutcomes (index : StationIndex) (length : Nat) (outcomes : List Code)
  | purged (count : Nat)
  | steered (index : StationIndex) (owner : Radio) (pendingOwner : Option Radio)
  | snapshot (snap : Snapshot)
  | scan (snaps : List Snapshot) (atEnd : Bool)
  | groupSettings (group : GroupIndex) (depth : Nat) (settings : GroupSettings)
  | stackDepth (depth : Nat)
  | radioSettings (r : Radio) (settings : RadioSettings)
  | radioFigures (figures : RadioFigures)
  | deviceSettings (settings : DeviceSettings)
  | deviceFigures (figures : DeviceFigures)
  | notices (taken : List Notice) (left : Nat)
  | eventSets (raw enabled masked : BitVec 10)
  deriving DecidableEq, Repr

/-- An answer record (R182, R184, R185). `kind` is the kind byte of the request answered. -/
inductive Answer where
  | control (kind : Byte) (code : Code) (body : Body)
  | linkReady (r : Radio)
  | grant (g : Grant)
  | pass (reason : PassReason)
  | taken (kind : Byte) (name : BitVec 16)
  | refused (kind : Byte) (code : Code)
  deriving DecidableEq, Repr

/-- One link port: how many request buffers are claimed (R158), and the answers whose last word has
not been sent, oldest first (R160). -/
@[ext]
structure Port where
  claimed : Nat
  answers : List Answer
  deriving DecidableEq, Repr

/-- A port with no buffer claimed and no answer to send. -/
def Port.empty : Port := ⟨0, []⟩

/-- What the part holds for one radio: its scheduler (R83), grant table (R109), group counters and
epoch timer (R69, R72), and its link port with link state and link-clock watch (R162, R165). `grants`
is formed first first; `watch` is the time since the last edge in clock cycles, `none` when stopped. -/
@[ext]
structure RadioUnit where
  settings : RadioSettings
  rings : Vector (List StationIndex) 4
  marks : List StationIndex
  nextTag : Byte
  counters : RadioCounters
  grants : List Grant
  usage : Vector Nat 4
  borrowed : Vector Nat 4
  epoch : EpochTimer
  linkUp : Bool
  watch : Option Nat
  port : Port
  deriving DecidableEq, Repr

/-- A radio's state after a device reset (R69, R72, R107, R127, R162, R158). -/
def RadioUnit.reset : RadioUnit where
  settings := .default
  rings := #v[[], [], [], []]
  marks := []
  nextTag := 0
  counters := .zero
  grants := []
  usage := #v[0, 0, 0, 0]
  borrowed := #v[0, 0, 0, 0]
  epoch := ⟨false, 0, none⟩
  linkUp := false
  watch := none
  port := .empty

/-! ### The whole part -/

/-- The state of the LH512. `choices` counts the free choices made (log 4) and `pending` is the queue
of commands that wait; both are the model's own fields. -/
@[ext]
structure State where
  stations : Vector Station Config.stationCount
  scanCursor : StationIndex
  releaseList : List Notice
  msClock : BitVec 32
  msPhase : Nat
  profile : Profile
  stack : List Profile
  radioA : RadioUnit
  radioB : RadioUnit
  device : DeviceSettings
  raw : BitVec 10
  enabled : BitVec 10
  control : Port
  resetAnswerDue : Bool
  resetInput : Bool
  freezeInput : Bool
  choices : Nat
  pending : List Instr
  deriving DecidableEq, Repr

/-- The part right after it has left reset (R42, R63, R64, R69, R72, R75, R107, R127, R162, R168, R170,
R171, R179). The two input pins are no registers: the reset input is high since the part has left
reset, and the freeze input is released, DESIGN CHOICE (log 8). -/
def State.reset : State where
  stations := Vector.replicate Config.stationCount Station.vacant
  scanCursor := 0
  releaseList := []
  msClock := 0
  msPhase := 0
  profile := Profile.default
  stack := []
  radioA := RadioUnit.reset
  radioB := RadioUnit.reset
  device := DeviceSettings.default
  raw := 0
  enabled := 0
  control := Port.empty
  resetAnswerDue := false
  resetInput := true
  freezeInput := false
  choices := 0
  pending := []

/-- What a command answers. -/
abbrev Result := Host.Outcome State Fault Refusal

end Sys2Proof.Machine
end

