-- ==== Sys2Proof/Machine/Operands.lean ====
section
/-! DEFINITION. How the part reads the fields of a request: every field as the unsigned number its
bits hold, with the treatment R187 gives a value outside its range. -/

namespace Sys2Proof.Machine

/-- A station index field, if it is 0 to 511 (R26, R187). -/
def stationOf (index : BitVec 16) : Option StationIndex :=
  if h : index.toNat < Config.stationCount then some ⟨index.toNat, h⟩ else none

/-- A group number field, if it is 0 to 3 (R65, R66). -/
def groupOf (group : Byte) : Option GroupIndex :=
  if h : group.toNat < 4 then some ⟨group.toNat, h⟩ else none

/-- A radio field: 1 names A, 2 names B, 0 and 3 name neither (R187). -/
def radioOf (field : BitVec 2) : Option Radio :=
  match field.toNat with
  | 1 => some .a
  | 2 => some .b
  | _ => none

/-- The code of a radio in a record field (R187). -/
def radioCode : Radio → BitVec 2
  | .a => 1
  | .b => 2

/-- A freeze mode field: 1 names RUN, 2 names HALT, 0 and 3 name neither (R187). -/
def freezeModeOf (field : BitVec 2) : Option FreezeMode :=
  match field.toNat with
  | 1 => some .run
  | 2 => some .halt
  | _ => none

/-- The code of a freeze mode in a record field (R187). -/
def freezeModeCode : FreezeMode → BitVec 2
  | .run => 1
  | .halt => 2

/-- The other radio. -/
def otherRadio : Radio → Radio
  | .a => .b
  | .b => .a

/-- What the power part of a NOTE holds (R133, R187). -/
inductive PowerPart where
  | absent
  | value (p : Power)
  | invalid
  deriving DecidableEq, Repr

/-- The power part: 0 absent, 1 DOZE, 2 AWAKE, 3 refused MALFORMED (R187). -/
def powerPartOf (field : BitVec 2) : PowerPart :=
  match field.toNat with
  | 0 => .absent
  | 1 => .value .doze
  | 2 => .value .awake
  | _ => .invalid

/-- The frame outcomes of a REPORT (R114). -/
inductive FrameOutcome where
  | delivered | failed | unsent
  deriving DecidableEq, Repr

/-- An outcome field: 1 DELIVERED, 2 FAILED, 3 UNSENT, 0 none of them (R187). -/
def outcomeOf (field : BitVec 2) : Option FrameOutcome :=
  match field.toNat with
  | 1 => some .delivered
  | 2 => some .failed
  | 3 => some .unsent
  | _ => none

/-- A rate that is not 0, clamped into 10 to 24000 rate units (R3). -/
def clampRate (rate : BitVec 16) : Nat := clampTo 10 24000 rate.toNat

/-- The rate ADMIT writes: the initial rate clamped, or 0 where it is absent (R3). -/
def admitRate (rate : BitVec 16) : Nat := if rate = 0 then 0 else clampRate rate

/-- The rate NOTE and REPORT leave in a field that holds `held` (R3). -/
def noteRate (held : Nat) (rate : BitVec 16) : Nat := if rate = 0 then held else clampRate rate

/-- The weight ADMIT and TUNE write (R18). -/
def clampWeight (weight : Byte) : Nat := clampTo 1 32 weight.toNat

/-- Whether a weight was clamped, which makes the answer DONE_ADJUSTED (R18). -/
def weightAdjusted (weight : Byte) : Bool := clampWeight weight != weight.toNat

/-- The code of a request that writes values: DONE_ADJUSTED if one of them was clamped (R18). -/
def writeCode (adjusted : Bool) : Code := if adjusted then .doneAdjusted else .done

/-- The settings GROUP SET writes: each number clamped into its range of R64, the rest as given
(R65). -/
def groupSettingsOf (b : GroupBlock) : GroupSettings where
  selector := b.selector
  ssidSet := b.ssidSet
  roleLow := b.roleLow
  roleHigh := b.roleHigh
  closed := b.closed
  quantum := clampTo 64 4096 b.quantum.toNat
  cap := clampTo 0 1000 b.cap.toNat
  borrow := b.borrow
  ceiling := clampTo 256 8000 b.ceiling.toNat
  holdTime := clampTo 0 4000 b.holdTime.toNat
  releaseCount := clampTo 1 64 b.releaseCount.toNat
  retryLimit := clampTo 1 15 b.retryLimit.toNat
  lifetime := clampTo 0 10000 b.lifetime.toNat
  queueLimit := clampTo 1 2048 b.queueLimit.toNat

/-- Whether GROUP SET clamped a value (R18). -/
def groupAdjusted (b : GroupBlock) : Bool :=
  (groupSettingsOf b).quantum != b.quantum.toNat ||
  (groupSettingsOf b).cap != b.cap.toNat ||
  (groupSettingsOf b).ceiling != b.ceiling.toNat ||
  (groupSettingsOf b).holdTime != b.holdTime.toNat ||
  (groupSettingsOf b).releaseCount != b.releaseCount.toNat ||
  (groupSettingsOf b).retryLimit != b.retryLimit.toNat ||
  (groupSettingsOf b).lifetime != b.lifetime.toNat ||
  (groupSettingsOf b).queueLimit != b.queueLimit.toNat

/-- The settings RADIO SET writes, clamped into the ranges of R102 (R103). -/
def radioSettingsOf (b : RadioBlock) : RadioSettings where
  epochLength := clampTo 10000 1000000 b.epochLength.toNat
  ppduOverhead := clampTo 0 1023 b.ppduOverhead.toNat
  frameOverhead := clampTo 0 255 b.frameOverhead.toNat
  grantTimeout := clampTo 1000 65535 b.grantTimeout.toNat
  defaultRate := clampTo 10 24000 b.defaultRate.toNat

/-- Whether RADIO SET clamped a value (R18). -/
def radioAdjusted (b : RadioBlock) : Bool :=
  (radioSettingsOf b).epochLength != b.epochLength.toNat ||
  (radioSettingsOf b).ppduOverhead != b.ppduOverhead.toNat ||
  (radioSettingsOf b).frameOverhead != b.frameOverhead.toNat ||
  (radioSettingsOf b).grantTimeout != b.grantTimeout.toNat ||
  (radioSettingsOf b).defaultRate != b.defaultRate.toNat

/-- The settings DEVICE SET writes with a freeze mode that its field names, clamped into the ranges of
R179 (R180). -/
def deviceSettingsOf (b : DeviceBlock) (mode : FreezeMode) : DeviceSettings where
  poolReserve := clampTo 0 2048 b.poolReserve.toNat
  watermark := clampTo 1 8192 b.watermark.toNat
  settleTime := clampTo 0 60000 b.settleTime.toNat
  freezeMode := mode

/-- Whether DEVICE SET clamped a value (R18). -/
def deviceAdjusted (b : DeviceBlock) : Bool :=
  (deviceSettingsOf b .run).poolReserve != b.poolReserve.toNat ||
  (deviceSettingsOf b .run).watermark != b.watermark.toNat ||
  (deviceSettingsOf b .run).settleTime != b.settleTime.toNat

/-- A remaining time in clock cycles in whole µs, rounded up (R177). -/
def cyclesToUs (cycles : Nat) : Nat := divUp cycles Config.cyclesPerUs

/-- A remaining time in clock cycles in whole ms, rounded up (R177). -/
def cyclesToMs (cycles : Nat) : Nat := divUp cycles Config.cyclesPerMs

/-- A time in µs in clock cycles. -/
def usToCycles (us : Nat) : Nat := us * Config.cyclesPerUs

/-- A time in ms in clock cycles. -/
def msToCycles (ms : Nat) : Nat := ms * Config.cyclesPerMs

/-- The kind bytes of the Control Link requests (R184). -/
def Kind.admitReq : Byte := 0x01
def Kind.dismissReq : Byte := 0x02
def Kind.queueReq : Byte := 0x03
def Kind.purgeReq : Byte := 0x04
def Kind.steerReq : Byte := 0x05
def Kind.pinReq : Byte := 0x06
def Kind.unpinReq : Byte := 0x07
def Kind.tuneReq : Byte := 0x08
def Kind.rematchReq : Byte := 0x09
def Kind.stationRead : Byte := 0x0A
def Kind.stationScan : Byte := 0x0B
def Kind.groupSet : Byte := 0x0C
def Kind.groupRead : Byte := 0x0D
def Kind.profileSave : Byte := 0x0E
def Kind.profileRestore : Byte := 0x0F
def Kind.radioSet : Byte := 0x10
def Kind.radioRead : Byte := 0x11
def Kind.deviceSet : Byte := 0x12
def Kind.deviceRead : Byte := 0x13
def Kind.collectReq : Byte := 0x14
def Kind.eventRead : Byte := 0x15
def Kind.eventClear : Byte := 0x16
def Kind.eventForce : Byte := 0x17
def Kind.eventMask : Byte := 0x18
def Kind.deviceReset : Byte := 0x19

/-- The kind bytes of the radio link requests (R185). -/
def Kind.linkStart : Byte := 0x40
def Kind.offerReq : Byte := 0x41
def Kind.reportReq : Byte := 0x42
def Kind.withdrawReq : Byte := 0x43
def Kind.noteReq : Byte := 0x44

/-- Whether a kind byte is a request kind of a link, check 1 of R161 (R184, R185). -/
def isRequestKind : Link → Byte → Bool
  | .control, kind => 1 ≤ kind.toNat && kind.toNat ≤ 0x19
  | .radio _, kind => 0x40 ≤ kind.toNat && kind.toNat ≤ 0x44

/-- The link a request is sent on; the events of the table are no requests (R160). -/
def requestLink : Instr → Option Link
  | .admitStation .. | .dismiss _ | .tune _ _ | .rematch _ | .pin _ | .unpin _ | .stationRead _
  | .stationScan _ _ | .queue _ _ | .purge _ | .collect _ | .groupSet _ _ | .groupRead _
  | .profileSave | .profileRestore | .radioSet _ _ | .radioRead _ | .steer _ _ | .deviceSet _
  | .deviceRead | .eventRead | .eventClear _ | .eventForce _ | .eventMask _ | .deviceReset =>
    some .control
  | .linkStart r | .offer r _ | .report r _ _ _ _ | .withdraw r _ | .note r _ _ _ => some (.radio r)
  | .malformedRecord _ _ | .recordWithoutHeader _ | .recordWhileNotReady _ | .answerSent _
  | .holdTimerExpiry _ | .settleTimerExpiry _ | .grantTimeout _ _ | .epochTimerExpiry _
  | .millisecondClockAdvance | .linkClockAbsent _ | .resetInputLow | .resetInputHigh
  | .freezeInputAsserted | .freezeInputReleased | .requestRecordBegins _ | .requestClockEdge _ => none

/-- The link whose port holds the record of a waiting command in one of its buffers: that of a request or
of a malformed record (R158, R161). -/
def bufferedOn : Instr → Option Link
  | .malformedRecord link _ => some link
  | c => requestLink c

end Sys2Proof.Machine
end

