-- ==== Sys2Proof/Machine/Records.lean ====
section
/-! DEFINITION. The words of every answer record (chapter 11). Reserved bits are 0 (R190). -/

namespace Sys2Proof.Machine

/-- A number in a field of `w` bits. -/
def field (w n : Nat) : BitVec w := BitVec.ofNat w n

/-- A single-bit choice: 1 for yes, on or present (R187). -/
def flagBit (b : Bool) : BitVec 1 := BitVec.ofBool b

/-- The code numbers of R182. -/
def codeByte : Code → Byte
  | .done => 0x00
  | .doneAdjusted => 0x01
  | .deferred => 0x02
  | .range => 0x10
  | .badLength => 0x11
  | .noStation => 0x12
  | .stationBusy => 0x13
  | .noGroup => 0x14
  | .groupClosed => 0x15
  | .queueLimit => 0x16
  | .poolFull => 0x17
  | .poolPressure => 0x18
  | .pinned => 0x19
  | .tooSoon => 0x1A
  | .steering => 0x1B
  | .stackFull => 0x1C
  | .stackEmpty => 0x1D
  | .malformed => 0x1F
  | .linkDown => 0x20
  | .stale => 0x21
  | .mismatch => 0x22
  | .notOwner => 0x23

/-- The PASS reason numbers of R182. -/
def reasonByte : PassReason → Byte
  | .frozen => 0x01
  | .windowFull => 0x02
  | .noBacklog => 0x03
  | .capped => 0x04
  | .tooShort => 0x05
  | .searchLimit => 0x06

/-- The state codes of R188. -/
def stateCode : StationState → BitVec 3
  | .free => 0
  | .idle => 1
  | .holding => 2
  | .ready => 3
  | .granted => 4
  | .dozing => 5

/-- The notice reason numbers of R188. -/
def noticeCode : Reason → BitVec 3
  | .delivered => 1
  | .retryLimit => 2
  | .expired => 3
  | .oversize => 4
  | .purged => 5
  | .dismissed => 6

/-- The code of an optional radio: 0 where it is absent (R187). -/
def optionalRadioCode (r : Option Radio) : BitVec 2 := (r.map radioCode).getD 0

/-- A header word: kind, word count, code, and reserved bits 0 (R182). -/
def headerWord (kind : Byte) (count : Nat) (code : Byte) : Word := kind ++ field 8 count ++ code ++ 0#8

/-- Two 16-bit fields in one word: `high` in bits 31–16, `low` in bits 15–0. -/
def halves (high low : Nat) : Word := field 16 high ++ field 16 low

/-- A deficit in sixteen bits of two's complement (R189). -/
def deficitField (d : Int) : BitVec 16 := BitVec.ofInt 16 d

/-- The station snapshot (R188, R189). -/
def snapshotWords (t : Snapshot) : List Word :=
  [ 0#3 ++ flagBit t.dismissMark ++ flagBit (t.power = .doze) ++ flagBit t.pinned ++
      optionalRadioCode t.pendingOwner ++ radioCode t.owner ++ field 2 t.group ++ 0#1 ++
      stateCode t.state ++ field 16 t.index,
    t.grantTag.getD 0 ++ 0#2 ++ field 6 t.weight ++ t.role ++ 0#1 ++ flagBit t.settleMs.isSome ++
      flagBit t.holdUs.isSome ++ flagBit t.grantTag.isSome ++ t.ssid,
    deficitField t.deficit ++ field 16 t.rate,
    halves (t.holdUs.getD 0) t.queueLength,
    halves 0 (t.settleMs.getD 0),
    t.airtimeTotal, t.delivered, t.dropped ]

/-- The release notice (R188, R189). -/
def noticeWords (n : Notice) : List Word :=
  [ n.slot.handle,
    0#8 ++ field 4 n.slot.retry ++ 0#1 ++ noticeCode n.reason ++ field 16 n.slot.station ]

/-- The group settings block (R186). -/
def groupBlockWords (g : GroupSettings) : List Word :=
  [ g.roleHigh ++ g.roleLow ++ g.ssidSet,
    0#8 ++ field 8 g.releaseCount ++ 0#4 ++ field 4 g.retryLimit ++ 0#5 ++ flagBit g.borrow ++
      flagBit g.closed ++ flagBit g.selector,
    halves g.ceiling g.quantum,
    halves g.cap g.holdTime,
    halves g.queueLimit g.lifetime ]

/-- The radio settings block (R186). -/
def radioBlockWords (t : RadioSettings) : List Word :=
  [ field 32 t.epochLength,
    0#8 ++ field 8 t.frameOverhead ++ field 16 t.ppduOverhead,
    halves t.defaultRate t.grantTimeout ]

/-- The device settings block (R186). -/
def deviceBlockWords (t : DeviceSettings) : List Word :=
  [ halves t.watermark t.poolReserve,
    0#14 ++ freezeModeCode t.freezeMode ++ field 16 t.settleTime ]

/-- The number whose base-2^w digits are the bytes or fields of a list, the first lowest. -/
def packFields {w : Nat} (fields : List (BitVec w)) : Nat :=
  fields.foldr (fun f rest => f.toNat + 2 ^ w * rest) 0

/-- Fields packed `n` to a word, the first in the lowest bits of the first word (R184, R185). -/
def packWords {w : Nat} (n : Nat) (fields : List (BitVec w)) : List Word :=
  (List.range (divUp fields.length n)).map fun k =>
    field 32 (packFields ((fields.drop (n * k)).take n))

/-- The words of one group in a RADIO READ answer (R184). -/
def groupFigureWords (f : GroupFigures) : List Word :=
  [field 32 f.usage, field 32 f.cap, field 32 f.borrowed, field 32 f.ringLength]

/-- An outstanding grant in a RADIO READ answer, 0 where there is none (R184). -/
def grantFigureWord : Option (Byte × StationIndex) → Word
  | none => 0
  | some (tag, i) => field 16 i ++ 0#8 ++ tag

/-- The body of a RADIO READ answer (R184). -/
def radioFigureWords (f : RadioFigures) : List Word :=
  [0#14 ++ field 2 f.grants.length ++ f.nextTag ++ 0#2 ++ flagBit f.epochRunning ++
    flagBit f.linkUp ++ 0#2 ++ radioCode f.radio] ++
  radioBlockWords f.settings ++
  [field 32 f.epochRemainingUs, field 32 f.epochInForce] ++
  f.groups.flatMap groupFigureWords ++
  [ f.counters.grantsFormed, f.counters.passFrozen, f.counters.passWindowFull,
    f.counters.passNoBacklog, f.counters.passCapped, f.counters.passTooShort,
    f.counters.passSearchLimit, f.counters.timeouts,
    grantFigureWord f.grants[0]?, grantFigureWord f.grants[1]? ]

/-- The body of a DEVICE READ answer (R184). -/
def deviceFigureWords (f : DeviceFigures) : List Word :=
  deviceBlockWords f.settings ++
  [ halves f.queued f.free,
    halves f.retired f.lent,
    0#8 ++ flagBit f.frozen ++ flagBit f.freezeInput ++ flagBit f.linkBUp ++ flagBit f.linkAUp ++
      0#1 ++ field 3 f.depth ++ field 16 f.backlogged,
    f.clock ]

/-- The body words of a Control Link answer (R184). -/
def bodyWords : Body → List Word
  | .empty => []
  | .stationGroup i g => [0#14 ++ field 2 g ++ field 16 i]
  | .queueOutcomes i n outcomes => halves n i :: packWords 4 (outcomes.map codeByte)
  | .purged n => [halves 0 n]
  | .steered i owner pending =>
    [0#12 ++ optionalRadioCode pending ++ radioCode owner ++ field 16 i]
  | .snapshot t => snapshotWords t
  | .scan snaps atEnd =>
    (0#23 ++ flagBit atEnd ++ 0#4 ++ field 4 snaps.length) :: snaps.flatMap snapshotWords
  | .groupSettings g depth settings =>
    (0#21 ++ field 3 depth ++ 0#6 ++ field 2 g) :: groupBlockWords settings
  | .stackDepth depth => [field 32 depth]
  | .radioSettings r settings => (0#30 ++ radioCode r) :: radioBlockWords settings
  | .radioFigures f => radioFigureWords f
  | .deviceSettings settings => deviceBlockWords settings
  | .deviceFigures f => deviceFigureWords f
  | .notices taken left =>
    (field 16 left ++ 0#8 ++ field 8 taken.length) :: taken.flatMap noticeWords
  | .eventSets raw enabled masked => [0#2 ++ masked ++ enabled ++ raw]

/-- The body words of a GRANT answer (R185). -/
def grantWords (g : Grant) : List Word :=
  [ 0#9 ++ field 7 g.frames.length ++ 0#7 ++ flagBit (g.pass = .borrow) ++ g.tag,
    halves g.rate g.station,
    halves g.budget g.estimate ] ++
  g.frames.flatMap fun f => [f.handle, halves 0 f.length]

/-- A record: its header, whose word count counts every word, and its body. -/
def recordWords (kind code : Byte) (body : List Word) : List Word :=
  headerWord kind (body.length + 1) code :: body

/-- The words of an answer record (R182, R184, R185). A Control Link answer has the request's kind plus
80h. -/
def Answer.words : Answer → List Word
  | .control kind code body => recordWords (kind + 0x80) (codeByte code) (bodyWords body)
  | .linkReady r => recordWords 0xC0 0 [0#30 ++ radioCode r]
  | .grant g => recordWords 0xC1 0 (grantWords g)
  | .pass reason => recordWords 0xC2 (reasonByte reason) []
  | .taken kind name => recordWords 0xC3 0 [kind ++ 0#8 ++ name]
  | .refused kind code => recordWords 0xC4 (codeByte code) [kind ++ 0#24]

end Sys2Proof.Machine
end

