-- ==== Sys2Proof/WellFormed.lean ====
section
/-! DEFINITION. Which commands a record or an event can spell. Every operand field has its record
width already; only the two lists have a bound of their own (R183). -/

namespace Sys2Proof

/-- The most entries a QUEUE record can carry: 2 + 2 × 126 words fit in 255, 127 entries do not
(R183). -/
def maxQueueEntries : Nat := 126

/-- The most outcomes a REPORT record can count: its count field has seven bits (R183, R185). -/
def maxReportOutcomes : Nat := 127

/-- A command that a well-formed record or an event spells. -/
def Instr.wellFormed : Instr → Bool
  | .queue _ entries => entries.length ≤ maxQueueEntries
  | .report _ _ _ _ outcomes => outcomes.length ≤ maxReportOutcomes
  | _ => true

end Sys2Proof
end

