-- ==== Sys2Proof/Decode.lean ====
section
/-! DEFINITION. Request records and the commands they spell (chapter 11): what a link port reads from a
framed record (R161, R183 to R187, R190), and the record of each request. The opcode table gives no row
any bits, so `decodeTableWord` answers none (log 17). -/

namespace Sys2Proof

open Machine

/-- The field of `len` bits whose lowest bit is `start`. -/
def bits (w : Word) (start len : Nat) : BitVec len := w.extractLsb' start len

/-- The single bit `n` of a word. -/
def bitAt (w : Word) (n : Nat) : Bool := w.getLsbD n

/-- A body of no words. -/
def body0 (i : Instr) : List Word → Option Instr
  | [] => some i
  | _ => none

/-- A body of one word. -/
def body1 (f : Word → Instr) : List Word → Option Instr
  | [w] => some (f w)
  | _ => none

/-- A body of two words. -/
def body2 (f : Word → Word → Instr) : List Word → Option Instr
  | [w, x] => some (f w x)
  | _ => none

/-- The group settings block (R186). -/
def groupBlockOf (s1 s2 s3 s4 s5 : Word) : GroupBlock where
  ssidSet := bits s1 0 16
  roleLow := bits s1 16 8
  roleHigh := bits s1 24 8
  selector := bitAt s2 0
  closed := bitAt s2 1
  borrow := bitAt s2 2
  retryLimit := bits s2 8 4
  releaseCount := bits s2 16 8
  quantum := bits s3 0 16
  ceiling := bits s3 16 16
  holdTime := bits s4 0 16
  cap := bits s4 16 16
  lifetime := bits s5 0 16
  queueLimit := bits s5 16 16

/-- The radio settings block (R186). -/
def radioBlockOf (r1 r2 r3 : Word) : RadioBlock where
  epochLength := r1
  ppduOverhead := bits r2 0 16
  frameOverhead := bits r2 16 8
  grantTimeout := bits r3 0 16
  defaultRate := bits r3 16 16

/-- The device settings block (R186). -/
def deviceBlockOf (d1 d2 : Word) : DeviceBlock where
  poolReserve := bits d1 0 16
  watermark := bits d1 16 16
  settleTime := bits d2 0 16
  freezeMode := bits d2 16 2

/-- The entries of a QUEUE: pairs of a handle word and a length word (R184). -/
def entriesOf : List Word → Option (List QueueEntry)
  | [] => some []
  | [_] => none
  | h :: l :: rest => (entriesOf rest).map (⟨h, bits l 0 16⟩ :: ·)

/-- QUEUE: 2 + 2 × entry count words (R183). -/
def decodeQueue : List Word → Option Instr
  | [] => none
  | w :: rest =>
    match entriesOf rest with
    | some es => if es.length = (bits w 16 8).toNat then some (.queue (bits w 0 16) es) else none
    | none => none

/-- The sixteen outcome fields of one outcome word, the first in bits 1–0 (R185). -/
def outcomeFields (w : Word) : List (BitVec 2) := (List.range 16).map fun k => bits w (2 * k) 2

/-- REPORT: 3 + ceil(outcome count / 16) words; positions beyond the count are reserved (R183, R187). -/
def decodeReport (r : Radio) : List Word → Option Instr
  | w :: x :: rest =>
    let n := (bits w 16 7).toNat
    if rest.length = divUp n 16 then
      some (.report r (bits w 0 8) (bits x 0 16) (bits x 16 16)
        ((rest.flatMap outcomeFields).take n))
    else none
  | _ => none

/-- A Control Link request by its kind and body, if the kind is one of the link's and the body has the
length the kind requires (R184). -/
def decodeControl (kind : Byte) (body : List Word) : Option Instr :=
  match kind.toNat with
  | 0x01 => body2 (fun w x => .admitStation (bits w 0 16) (bits w 16 8) (bits w 24 2) (bitAt w 26)
      (bits x 0 8) (bits x 8 8) (bits x 16 16)) body
  | 0x02 => body1 (fun w => .dismiss (bits w 0 16)) body
  | 0x03 => decodeQueue body
  | 0x04 => body1 (fun w => .purge (bits w 0 16)) body
  | 0x05 => body1 (fun w => .steer (bits w 0 16) (bits w 16 2)) body
  | 0x06 => body1 (fun w => .pin (bits w 0 16)) body
  | 0x07 => body1 (fun w => .unpin (bits w 0 16)) body
  | 0x08 => body1 (fun w => .tune (bits w 0 16) (bits w 16 8)) body
  | 0x09 => body1 (fun w => .rematch (bits w 0 16)) body
  | 0x0A => body1 (fun w => .stationRead (bits w 0 16)) body
  | 0x0B => body1 (fun w => .stationScan (bits w 0 4) (bitAt w 8)) body
  | 0x0C =>
    match body with
    | [w, s1, s2, s3, s4, s5] => some (.groupSet (bits w 0 8) (groupBlockOf s1 s2 s3 s4 s5))
    | _ => none
  | 0x0D => body1 (fun w => .groupRead (bits w 0 8)) body
  | 0x0E => body0 .profileSave body
  | 0x0F => body0 .profileRestore body
  | 0x10 =>
    match body with
    | [w, r1, r2, r3] => some (.radioSet (bits w 0 2) (radioBlockOf r1 r2 r3))
    | _ => none
  | 0x11 => body1 (fun w => .radioRead (bits w 0 2)) body
  | 0x12 => body2 (fun d1 d2 => .deviceSet (deviceBlockOf d1 d2)) body
  | 0x13 => body0 .deviceRead body
  | 0x14 => body1 (fun w => .collect (bits w 0 8)) body
  | 0x15 => body0 .eventRead body
  | 0x16 => body1 (fun w => .eventClear (bits w 0 10)) body
  | 0x17 => body1 (fun w => .eventForce (bits w 0 10)) body
  | 0x18 => body1 (fun w => .eventMask (bits w 0 10)) body
  | 0x19 => body0 .deviceReset body
  | _ => none

/-- A radio link request by its kind and body (R185). -/
def decodeRadio (r : Radio) (kind : Byte) (body : List Word) : Option Instr :=
  match kind.toNat with
  | 0x40 => body0 (.linkStart r) body
  | 0x41 => body1 (fun w => .offer r (bits w 0 16)) body
  | 0x42 => decodeReport r body
  | 0x43 => body1 (fun w => .withdraw r (bits w 0 8)) body
  | 0x44 => body2 (fun w x => .note r (bits w 0 16) (bits w 16 2) (bits x 0 16)) body
  | _ => none

/-- The command a framed record is: without a whole word it has no header (R157); one that fails check 1,
3 or 4 of R161 is a malformed record of its kind; any other is the request it spells. -/
def decodeRecord (link : Link) : List Word → Instr
  | [] => .recordWithoutHeader link
  | header :: body =>
    if (bits header 16 8).toNat = body.length + 1 then
      (match link with
        | .control => decodeControl (bits header 24 8) body
        | .radio r => decodeRadio r (bits header 24 8) body).getD
          (.malformedRecord link (bits header 24 8))
    else .malformedRecord link (bits header 24 8)

/-- The command that a word spells by the table's bits. The table gives no row any bits, so none does
(log 17). -/
def decodeTableWord (_nbits _w : Nat) : Option Instr := none

/-! ### The records of the requests -/

/-- A request record: its header, with the reserved code 0, and its body (R182). -/
def requestRecord (kind : Byte) (body : List Word) : List Word := recordWords kind 0 body

/-- A body word that carries a station index alone. -/
def indexWord (index : BitVec 16) : Word := 0#16 ++ index

/-- The group settings block of GROUP SET (R186). -/
def groupBlockRecord (b : GroupBlock) : List Word :=
  [ b.roleHigh ++ b.roleLow ++ b.ssidSet,
    0#8 ++ b.releaseCount ++ 0#4 ++ b.retryLimit ++ 0#5 ++ flagBit b.borrow ++ flagBit b.closed ++
      flagBit b.selector,
    b.ceiling ++ b.quantum,
    b.cap ++ b.holdTime,
    b.queueLimit ++ b.lifetime ]

/-- The words of one QUEUE entry (R184). -/
def entryWords (e : QueueEntry) : List Word := [e.handle, 0#16 ++ e.length]

/-- The record of a request (R184, R185); an event of the table is no record and has no words. -/
def encodeRequest : Instr → List Word
  | .admitStation index ssid owner pinned role weight rate =>
    requestRecord Kind.admitReq
      [0#5 ++ flagBit pinned ++ owner ++ ssid ++ index, rate ++ weight ++ role]
  | .dismiss index => requestRecord Kind.dismissReq [indexWord index]
  | .tune index weight => requestRecord Kind.tuneReq [0#8 ++ weight ++ index]
  | .rematch index => requestRecord Kind.rematchReq [indexWord index]
  | .pin index => requestRecord Kind.pinReq [indexWord index]
  | .unpin index => requestRecord Kind.unpinReq [indexWord index]
  | .stationRead index => requestRecord Kind.stationRead [indexWord index]
  | .stationScan count restart =>
    requestRecord Kind.stationScan [0#23 ++ flagBit restart ++ 0#4 ++ count]
  | .queue index entries =>
    requestRecord Kind.queueReq
      ((0#8 ++ field 8 entries.length ++ index) :: entries.flatMap entryWords)
  | .purge index => requestRecord Kind.purgeReq [indexWord index]
  | .collect count => requestRecord Kind.collectReq [0#24 ++ count]
  | .groupSet group block => requestRecord Kind.groupSet ((0#24 ++ group) :: groupBlockRecord block)
  | .groupRead group => requestRecord Kind.groupRead [0#24 ++ group]
  | .profileSave => requestRecord Kind.profileSave []
  | .profileRestore => requestRecord Kind.profileRestore []
  | .radioSet radio b =>
    requestRecord Kind.radioSet
      [ 0#30 ++ radio, b.epochLength, 0#8 ++ b.frameOverhead ++ b.ppduOverhead,
        b.defaultRate ++ b.grantTimeout ]
  | .radioRead radio => requestRecord Kind.radioRead [0#30 ++ radio]
  | .steer index target => requestRecord Kind.steerReq [0#14 ++ target ++ index]
  | .deviceSet b =>
    requestRecord Kind.deviceSet
      [b.watermark ++ b.poolReserve, 0#14 ++ b.freezeMode ++ b.settleTime]
  | .deviceRead => requestRecord Kind.deviceRead []
  | .eventRead => requestRecord Kind.eventRead []
  | .eventClear kinds => requestRecord Kind.eventClear [0#22 ++ kinds]
  | .eventForce kinds => requestRecord Kind.eventForce [0#22 ++ kinds]
  | .eventMask kinds => requestRecord Kind.eventMask [0#22 ++ kinds]
  | .deviceReset => requestRecord Kind.deviceReset []
  | .linkStart _ => requestRecord Kind.linkStart []
  | .offer _ airtime => requestRecord Kind.offerReq [0#16 ++ airtime]
  | .report _ tag airtime rate outcomes =>
    requestRecord Kind.reportReq
      ((0#9 ++ field 7 outcomes.length ++ 0#8 ++ tag) :: (rate ++ airtime) :: packWords 16 outcomes)
  | .withdraw _ tag => requestRecord Kind.withdrawReq [0#24 ++ tag]
  | .note _ index power rate =>
    requestRecord Kind.noteReq [0#14 ++ power ++ index, 0#16 ++ rate]
  | .malformedRecord _ _ => []
  | .recordWithoutHeader _ => []
  | .recordWhileNotReady _ => []
  | .answerSent _ => []
  | .holdTimerExpiry _ => []
  | .settleTimerExpiry _ => []
  | .grantTimeout _ _ => []
  | .epochTimerExpiry _ => []
  | .millisecondClockAdvance => []
  | .linkClockAbsent _ => []
  | .resetInputLow => []
  | .resetInputHigh => []
  | .freezeInputAsserted => []
  | .freezeInputReleased => []
  | .requestRecordBegins _ => []
  | .requestClockEdge _ => []

end Sys2Proof
end

