-- ==== Sys2Proof/Machine/Flags.lean ====
section
/-! DEFINITION. The ten event flags, their mask, the event line (R170, R171) and the freeze (R176). -/

namespace Sys2Proof.Machine

/-- The ten event kinds of R170. -/
inductive EventKind where
  | releaseReady | poolLow | timeoutA | timeoutB | linkLostA | linkLostB | stationFreed | steerDone
  | capReached | malformed
  deriving DecidableEq, Repr

/-- The place of a kind in an event set (R187). -/
def EventKind.bit : EventKind → Nat
  | .releaseReady => 0
  | .poolLow => 1
  | .timeoutA => 2
  | .timeoutB => 3
  | .linkLostA => 4
  | .linkLostB => 5
  | .stationFreed => 6
  | .steerDone => 7
  | .capReached => 8
  | .malformed => 9

/-- The event set that holds one kind alone. -/
def EventKind.set (k : EventKind) : BitVec 10 := BitVec.twoPow 10 k.bit

/-- TIMEOUT_A or TIMEOUT_B (R121). -/
def timeoutEvent : Radio → EventKind
  | .a => .timeoutA
  | .b => .timeoutB

/-- LINK_LOST_A or LINK_LOST_B (R166). -/
def linkLostEvent : Radio → EventKind
  | .a => .linkLostA
  | .b => .linkLostB

/-- Report an event: its raw flag is set and stays set until EVENT CLEAR names it (R170). -/
def State.raise (s : State) (k : EventKind) : State := { s with raw := s.raw ||| k.set }

/-- Report an event where `c` holds. -/
def State.raiseIf (s : State) (c : Prop) [Decidable c] (k : EventKind) : State :=
  if c then s.raise k else s

/-- Whether the raw flag of a kind is set (R170). -/
def State.flag (s : State) (k : EventKind) : Bool := s.raw.getLsbD k.bit

/-- The masked set: raw and enabled (R171). -/
def State.masked (s : State) : BitVec 10 := s.raw &&& s.enabled

/-- The event line is high while the masked set is non-empty (R171). -/
def State.eventLine (s : State) : Bool := s.masked != 0

/-- The freeze holds while the freeze mode is HALT and the freeze input is asserted (R176). -/
def State.frozen (s : State) : Bool := s.device.freezeMode = .halt && s.freezeInput

/-- No timer but the link-clock watch runs: the freeze holds (R177) or the part is held in device reset
(R168). -/
def State.timersStopped (s : State) : Bool := s.frozen || !s.resetInput

end Sys2Proof.Machine
end

