-- ==== Sys2Proof/Machine/Ops.lean ====
section
/-! DEFINITION. The named operations over the part's state: station records, radios, rings, the slots'
places, the ports and the device reset. Every meaning is written over these. -/

namespace Sys2Proof.Machine

/-! ### Stations, radios, groups -/

/-- The record of a station. -/
def State.station (s : State) (i : StationIndex) : Station := s.stations[i]

/-- Write the record of a station. -/
def State.setStation (s : State) (i : StationIndex) (st : Station) : State :=
  { s with stations := s.stations.set i st }

/-- All station indices, ascending. -/
def allStations : List StationIndex := List.finRange Config.stationCount

/-- The state of a radio. -/
def State.radio (s : State) : Radio → RadioUnit
  | .a => s.radioA
  | .b => s.radioB

/-- Write the state of a radio. -/
def State.setRadio (s : State) (r : Radio) (u : RadioUnit) : State :=
  match r with
  | .a => { s with radioA := u }
  | .b => { s with radioB := u }

/-- The active settings of a group (R64). -/
def State.group (s : State) (g : GroupIndex) : GroupSettings := s.profile[g]

/-- The active settings of a station's group. -/
def State.groupOfStation (s : State) (i : StationIndex) : GroupSettings := s.group (s.station i).group

/-- A station that is admitted and carries no dismiss mark: the station requests act on it (R26). -/
def Station.actionable (st : Station) : Bool := st.state ≠ .free && !st.dismissMark

/-! ### Rings (R84) -/

/-- The ring of a group on a radio, head first. -/
def RadioUnit.ring (u : RadioUnit) (g : GroupIndex) : List StationIndex := u.rings[g]

/-- Write a ring. -/
def State.setRing (s : State) (r : Radio) (g : GroupIndex) (ring : List StationIndex) : State :=
  s.setRadio r { s.radio r with rings := (s.radio r).rings.set g ring }

/-- A station joins a ring at the tail, immediately before the head in circular order (R84). -/
def State.joinRing (s : State) (r : Radio) (g : GroupIndex) (i : StationIndex) : State :=
  s.setRing r g ((s.radio r).ring g ++ [i])

/-- A station leaves a ring; if it was the head, its successor becomes the head (R23). -/
def State.leaveRing (s : State) (r : Radio) (g : GroupIndex) (i : StationIndex) : State :=
  s.setRing r g (((s.radio r).ring g).erase i)

/-- Make the successor of the head the new head (R84). -/
def rotate : List StationIndex → List StationIndex
  | [] => []
  | i :: ring => ring ++ [i]

/-- STB places a station in READY: no hold, and the tail of the ring of its owner and group (R23). -/
def State.enterReady (s : State) (i : StationIndex) : State :=
  (s.setStation i { s.station i with state := .ready, hold := none }).joinRing
    (s.station i).owner (s.station i).group i

/-- A station that is READY leaves its ring; any other is in no ring (R22, R23). -/
def State.exitRing (s : State) (i : StationIndex) : State :=
  if (s.station i).state = .ready then s.leaveRing (s.station i).owner (s.station i).group i else s

/-! ### Slots (R44) -/

/-- The number of QUEUED slots (R44). -/
def State.queuedCount (s : State) : Nat := (s.stations.toList.map (·.queue.length)).sum

/-- The number of LENT slots of one radio's grants. -/
def RadioUnit.lentCount (u : RadioUnit) : Nat := (u.grants.map (·.frames.length)).sum

/-- The number of LENT slots (R44). -/
def State.lentCount (s : State) : Nat := s.radioA.lentCount + s.radioB.lentCount

/-- The number of RETIRED slots: the length of the release list (R44, R181). -/
def State.retiredCount (s : State) : Nat := s.releaseList.length

/-- The number of FREE slots: the four counts sum to 8192 (R44). -/
def State.freeCount (s : State) : Nat :=
  Config.slotCount - (s.queuedCount + s.lentCount + s.retiredCount)

/-- The number of stations whose queue holds at least one slot (R44). -/
def State.backloggedCount (s : State) : Nat := s.stations.toList.countP (!·.queue.isEmpty)

/-- Retire one slot: it joins the tail of the release list (R58), and RELEASE_READY is reported if that
takes the list from below the watermark to it (R61). -/
def State.retire (s : State) (n : Notice) : State :=
  State.raiseIf { s with releaseList := s.releaseList ++ [n] }
    (s.releaseList.length < s.device.watermark ∧ s.device.watermark ≤ s.releaseList.length + 1)
    .releaseReady

/-- Retire several slots, in order, as one run of the release list (R59). -/
def State.retireAll (s : State) (ns : List Notice) : State := ns.foldl State.retire s

/-- Retire a station's whole queue with one reason, head first (R31, R32, R57). -/
def State.retireQueue (s : State) (i : StationIndex) (reason : Reason) : State :=
  (s.setStation i { s.station i with queue := [] }).retireAll
    ((s.station i).queue.map fun slot => ⟨slot, reason⟩)

/-- Slots that a grant end returns re-enter at the queue's head, in grant order (R53). -/
def State.returnSlots (s : State) (i : StationIndex) (slots : List Slot) : State :=
  s.setStation i { s.station i with queue := slots ++ (s.station i).queue }

/-! ### Leaving the part -/

/-- The record of a station as it enters FREE: the vacant values, with the counters kept (R21). -/
def Station.vacated (st : Station) : Station :=
  { Station.vacant with
    airtimeTotal := st.airtimeTotal, delivered := st.delivered, dropped := st.dropped }

/-- A station enters FREE (R21). -/
def State.freeStation (s : State) (i : StationIndex) : State :=
  s.setStation i (s.station i).vacated

/-! ### Moves between radios (R145) -/

/-- The settle window a move opens: the device settle time, or none where it is 0 (R149). -/
def State.newWindow (s : State) : Option Nat :=
  if s.device.settleTime = 0 then none else some (msToCycles s.device.settleTime)

/-- The record of a station after a move to a radio, its state apart (R145). -/
def State.movedRecord (s : State) (i : StationIndex) (r : Radio) : Station :=
  { s.station i with
    owner := r, pendingOwner := none, power := .awake, rate := 0, settle := s.newWindow }

/-! ### Ports -/

/-- The port of a link. -/
def State.port (s : State) : Link → Port
  | .control => s.control
  | .radio r => (s.radio r).port

/-- Write the port of a link. -/
def State.setPort (s : State) (l : Link) (p : Port) : State :=
  match l with
  | .control => { s with control := p }
  | .radio r => s.setRadio r { s.radio r with port := p }

/-- The part sends an answer: it joins the answers of its link, in the order of the requests (R160). -/
def State.answer (s : State) (l : Link) (a : Answer) : State :=
  s.setPort l { s.port l with answers := (s.port l).answers ++ [a] }

/-- Answer a Control Link request. -/
def State.reply (s : State) (kind : Byte) (code : Code) (body : Body) : State :=
  s.answer .control (.control kind code body)

/-- Answer a Control Link request with its header word alone: every refusal but STEER's, and the
successes whose answer has no body (R182, R184). -/
def State.replyHeader (s : State) (kind : Byte) (code : Code) : State := s.reply kind code .empty

/-- Answer a radio link request REFUSED (R185). -/
def State.refuseRadio (s : State) (r : Radio) (kind : Byte) (code : Code) : State :=
  s.answer (.radio r) (.refused kind code)

/-- Records on a link are ignored: the part is held in device reset (R168), or the answer to DEVICE
RESET has not been sent and the link is the Control Link (R169). Log 9. -/
def State.ignores (s : State) : Link → Bool
  | .control => !s.resetInput || s.resetAnswerDue
  | .radio _ => !s.resetInput

/-- The ready line of a link (R158, R168, R169). -/
def State.ready (s : State) (l : Link) : Bool :=
  !s.ignores l && (s.port l).claimed < Config.bufferCount

/-- A record is discarded: MALFORMED is reported, unless records on the link are ignored (R157, R159). -/
def State.discardRecord (s : State) (l : Link) : State :=
  s.raiseIf (s.ignores l = false) .malformed

/-- A port refuses a buffered record MALFORMED and reports it (R161). On the Control Link a record of
an unknown kind is answered with kind 80h, on a radio link with the kind as received (R182). -/
def State.refuseMalformed (s : State) (l : Link) (kind : Byte) : State :=
  (match l with
    | .control => s.replyHeader (if isRequestKind .control kind then kind else 0) .malformed
    | .radio r => s.refuseRadio r kind .malformed).raise .malformed

/-! ### Requests not yet taken -/

/-- How many of a port's claimed buffers hold a request not yet taken; the others hold the requests whose
answers have not been sent in full (R158). -/
def Port.untaken (p : Port) : Nat := p.claimed - p.answers.length

/-- The commands that go on waiting when a link's requests are discarded but for the first `held` of them.
Records on one link do not overlap (R157), so those that wait ahead of the link's next
REQUEST_RECORD_BEGINS have begun; the ones behind it begin later and stay (log 21). -/
def dropUntaken (link : Link) : Nat → List Instr → List Instr
  | _, [] => []
  | held, c :: rest =>
    if c = .requestRecordBegins link then c :: rest
    else if bufferedOn c = some link then
      match held with
      | 0 => dropUntaken link 0 rest
      | n + 1 => c :: dropUntaken link n rest
    else c :: dropUntaken link held rest

/-- Discard a link's requests that have begun, unanswered, but for the first `held` of them: none is held
at a link loss or a device reset (R165, R168, R169), those in the buffers are at the discard of a record that
begins while ready is low (R159). -/
def State.discardUntaken (s : State) (link : Link) (held : Nat) : State :=
  { s with pending := dropUntaken link held s.pending }

/-! ### Device reset -/

/-- A device reset: every block at its reset values, and the untaken requests of every port discarded
(R168, R169). The input pins keep their levels, and the counter of free choices is the model's own. -/
def State.deviceReset (s : State) : State :=
  { State.reset with
    resetInput := s.resetInput, freezeInput := s.freezeInput, choices := s.choices,
    pending :=
      dropUntaken .control 0 (dropUntaken (.radio .a) 0 (dropUntaken (.radio .b) 0 s.pending)) }

/-! ### Timers in their last cycle (log 3) -/

/-- A running timer expires as its last cycle ends; until then it holds at least that cycle (R177). -/
def lastCycle (cycles : Nat) : Bool := cycles ≤ 1

/-- A station's hold timer is in its last cycle; it runs only while the station is HOLDING (R128). -/
def Station.holdDue (st : Station) : Bool := st.state = .holding && st.hold.any lastCycle

/-- A station's settle timer is in its last cycle (R149). -/
def Station.settleDue (st : Station) : Bool := st.settle.any lastCycle

/-- A grant's timer is in its last cycle (R110). -/
def Grant.due (g : Grant) : Bool := lastCycle g.timer

/-- A radio's epoch timer runs and is in its last cycle (R72). -/
def EpochTimer.due (e : EpochTimer) : Bool := e.running && lastCycle e.remaining

/-- The running millisecond is in its last cycle (R54). -/
def State.millisecondDue (s : State) : Bool := Config.cyclesPerMs ≤ s.msPhase + 1

/-- An UP link's watch is in the last cycle of 100 µs without an edge (R165). -/
def RadioUnit.clockAbsent (u : RadioUnit) : Bool :=
  u.linkUp && u.watch.any fun n => usToCycles Config.watchLimitUs ≤ n + 1

/-! ### Requests that name a station (R26) -/

/-- A Control Link request that acts on an admitted station without a dismiss mark: RANGE for an index
above 511, NO_STATION for a station that is FREE or marked (R26). -/
def State.onStation (s : State) (kind : Byte) (index : BitVec 16) (act : StationIndex → State) :
    State :=
  match stationOf index with
  | none => s.replyHeader kind .range
  | some i => if (s.station i).actionable then act i else s.replyHeader kind .noStation

/-- A Control Link request that is not ignored has its effect (R160, R168, R169). -/
def State.onControl (s : State) (act : State) : Result :=
  .next (if s.ignores .control then s else act)

/-- A radio link request is ignored while the part is held in device reset (R168), refused LINK_DOWN on
a DOWN link (R163), and has its effect on an UP link. -/
def State.onRadio (s : State) (r : Radio) (kind : Byte) (act : State) : Result :=
  .next (if s.ignores (.radio r) then s
    else if (s.radio r).linkUp then act else s.refuseRadio r kind .linkDown)

/-- An expiry has its effect unless the timers are stopped (R168, R177). -/
def State.onExpiry (s : State) (act : State) : Result :=
  .next (if s.timersStopped then s else act)

end Sys2Proof.Machine
end

