-- ==== Sys2Proof/Machine/Events.lean ====
section
/-! DEFINITION. The Event Unit (chapter 10): the event requests, the freeze input, DEVICE SET and DEVICE
READ. -/

namespace Sys2Proof.Machine

/-- The three event sets as an event request answers them (10.2). -/
def State.eventBody (s : State) : Body := .eventSets s.raw s.enabled s.masked

/-- Answer an event request with the three sets as they stand after it. -/
def State.answerEvents (s : State) (kind : Byte) : State := s.reply kind .done s.eventBody

/-- EVENT READ (R172). -/
def execEventRead (s : State) : Result := s.onControl (s.answerEvents Kind.eventRead)

/-- EVENT CLEAR clears the raw flag of each kind named (R173). -/
def execEventClear (kinds : BitVec 10) (s : State) : Result :=
  s.onControl ({ s with raw := s.raw &&& ~~~kinds }.answerEvents Kind.eventClear)

/-- EVENT FORCE sets the raw flag of each kind named (R174). -/
def execEventForce (kinds : BitVec 10) (s : State) : Result :=
  s.onControl ({ s with raw := s.raw ||| kinds }.answerEvents Kind.eventForce)

/-- EVENT MASK replaces the enabled set (R175). -/
def execEventMask (kinds : BitVec 10) (s : State) : Result :=
  s.onControl ({ s with enabled := kinds }.answerEvents Kind.eventMask)

/-- The freeze input is asserted (R176). It is a pin, so it changes whatever else holds. -/
def execFreezeInputAsserted (s : State) : Result := .next { s with freezeInput := true }

/-- The freeze input is released (R176). -/
def execFreezeInputReleased (s : State) : Result := .next { s with freezeInput := false }

/-- DEVICE SET as it is taken: RANGE and nothing written for a freeze mode field that names no mode, else
the four settings, clamped, and the answer carries them as written (R180). -/
def deviceSetTaken (block : DeviceBlock) (s : State) : State :=
  match freezeModeOf block.freezeMode with
  | none => s.replyHeader Kind.deviceSet .range
  | some mode =>
    { s with device := deviceSettingsOf block mode }.reply Kind.deviceSet
      (writeCode (deviceAdjusted block)) (.deviceSettings (deviceSettingsOf block mode))

/-- DEVICE SET (R180). -/
def execDeviceSet (block : DeviceBlock) (s : State) : Result := s.onControl (deviceSetTaken block s)

/-- The figures of the device (R181). -/
def State.deviceFigures (s : State) : DeviceFigures where
  settings := s.device
  free := s.freeCount
  queued := s.queuedCount
  lent := s.lentCount
  retired := s.retiredCount
  backlogged := s.backloggedCount
  depth := s.stack.length
  clock := s.msClock
  linkAUp := s.radioA.linkUp
  linkBUp := s.radioB.linkUp
  freezeInput := s.freezeInput
  frozen := s.frozen

/-- DEVICE READ (R181). -/
def execDeviceRead (s : State) : Result :=
  s.onControl (s.reply Kind.deviceRead .done (.deviceFigures s.deviceFigures))

end Sys2Proof.Machine
end

