-- ==== Sys2Proof/Machine/Airtime.lean ====
section
/-! DEFINITION. The Airtime Calculator and the group counters: every formula of chapter 1. -/

namespace Sys2Proof.Machine

/-- The rate in use for a station on a radio: its rate, or the radio's default rate where it is 0
(R2). -/
def rateInUse (settings : RadioSettings) (rate : Nat) : Nat :=
  if rate = 0 then settings.defaultRate else rate

/-- The time of one frame in sixteenths of a µs: ceil((L + P) × 1280 / rate) (R4). -/
def frameTime (settings : RadioSettings) (rate length : Nat) : Nat :=
  divUp ((length + settings.frameOverhead) * 1280) rate

/-- The estimate of frames whose times sum to `sum`: H + ceil(S / 16) (R5). -/
def estimate (settings : RadioSettings) (sum : Nat) : Nat := settings.ppduOverhead + divUp sum 16

/-- The single-frame estimate of a frame (R5). -/
def singleEstimate (settings : RadioSettings) (rate length : Nat) : Nat :=
  estimate settings (frameTime settings rate length)

/-- A station's effective quantum: floor(Q × w / 8) (R7). -/
def effectiveQuantum (quantum weight : Nat) : Nat := quantum * weight / 8

/-- The clamped offer of R8. -/
def clampOffer (airtime : BitVec 16) : Nat := min airtime.toNat Config.offerMax

/-- The clamped airtime of R13. -/
def clampAirtime (airtime : BitVec 16) : Nat := min airtime.toNat Config.airtimeMax

/-- The epoch length that caps are computed from: the length in force, or the setting while no epoch
has started (R9, R72). -/
def RadioUnit.epochLength (u : RadioUnit) : Nat := u.epoch.inForce.getD u.settings.epochLength

/-- The cap of a group on a radio: floor(epoch length × cap per-mille / 1000) (R9). -/
def State.capOf (s : State) (r : Radio) (g : GroupIndex) : Nat :=
  (s.radio r).epochLength * (s.group g).cap / 1000

/-- The usage counter of a group on a radio (R69). -/
def State.usage (s : State) (r : Radio) (g : GroupIndex) : Nat := (s.radio r).usage[g]

/-- The borrowed counter of a group on a radio (R69). -/
def State.borrowed (s : State) (r : Radio) (g : GroupIndex) : Nat := (s.radio r).borrowed[g]

/-- Write a usage counter. -/
def State.setUsage (s : State) (r : Radio) (g : GroupIndex) (n : Nat) : State :=
  s.setRadio r { s.radio r with usage := (s.radio r).usage.set g n }

/-- Write a borrowed counter. -/
def State.setBorrowed (s : State) (r : Radio) (g : GroupIndex) (n : Nat) : State :=
  s.setRadio r { s.radio r with borrowed := (s.radio r).borrowed.set g n }

/-- A group is within cap while its usage is below its cap (R9). -/
def State.withinCap (s : State) (r : Radio) (g : GroupIndex) : Bool := s.usage r g < s.capOf r g

/-- The budget of a visit: min(O, Gmax, cap − usage) in the cap pass, min(O, Gmax) in the borrow pass
(R10, R11). -/
def State.budget (s : State) (r : Radio) (g : GroupIndex) (pass : PassKind) (offer : Nat) : Nat :=
  match pass with
  | .cap => min offer (min (s.group g).ceiling (s.capOf r g - s.usage r g))
  | .borrow => min offer (s.group g).ceiling

/-- Increase a group counter, no further than its maximum (R16). An increase of usage that takes it from
below the cap to the cap or above reports CAP_REACHED (R70). -/
def State.chargeCounter (s : State) (r : Radio) (g : GroupIndex) (pass : PassKind) (n : Nat) : State :=
  match pass with
  | .cap =>
    (s.setUsage r g (min (s.usage r g + n) Config.counterMax)).raiseIf
      (s.usage r g < s.capOf r g ∧ s.capOf r g ≤ min (s.usage r g + n) Config.counterMax)
      .capReached
  | .borrow => s.setBorrowed r g (min (s.borrowed r g + n) Config.counterMax)

/-- Decrease a group counter, no further than 0 (R15, R16). -/
def State.refundCounter (s : State) (r : Radio) (g : GroupIndex) (pass : PassKind) (n : Nat) : State :=
  match pass with
  | .cap => s.setUsage r g (s.usage r g - n)
  | .borrow => s.setBorrowed r g (s.borrowed r g - n)

/-- Change a group counter by A′ − E at a REPORT (R13). -/
def State.correctCounter (s : State) (r : Radio) (g : GroupIndex) (pass : PassKind)
    (actual est : Nat) : State :=
  if est ≤ actual then s.chargeCounter r g pass (actual - est)
  else s.refundCounter r g pass (est - actual)

/-- What a rollover carries: min(32767, max(0, usage − cap)) (R17). -/
def carried (usage cap : Nat) : Nat := min Config.carryMax (usage - cap)

/-- The rollover of every group of a radio: usage carried over its cap, borrowed 0 (R17). -/
def State.rollover (s : State) (r : Radio) : State :=
  s.setRadio r { s.radio r with
    usage := #v[carried (s.usage r 0) (s.capOf r 0), carried (s.usage r 1) (s.capOf r 1),
      carried (s.usage r 2) (s.capOf r 2), carried (s.usage r 3) (s.capOf r 3)]
    borrowed := #v[0, 0, 0, 0] }

/-- An epoch begins: the length setting comes into force and is the remaining time (R72). -/
def RadioUnit.startEpoch (u : RadioUnit) : RadioUnit :=
  { u with epoch := ⟨true, usToCycles u.settings.epochLength, some u.settings.epochLength⟩ }

end Sys2Proof.Machine
end

