-- ==== Sys2Proof/Machine/Grants.lean ====
section
/-! DEFINITION. The Grant Tables (chapter 6): the shared grant end of R111 with its hand-over to STB
(R25), REPORT, WITHDRAW, the timeout, and the ends a radio-link reset makes. -/

namespace Sys2Proof.Machine

/-- The outstanding grant of a radio that carries a tag (R124). -/
def RadioUnit.findGrant (u : RadioUnit) (tag : Byte) : Option Grant :=
  u.grants.find? fun g => g.tag = tag

/-! ### The hand-over (R25) -/

/-- The hand-over's step 2: a pending owner's move is applied and STEER_DONE is raised (R147). -/
def State.applyPending (s : State) (i : StationIndex) : State :=
  match (s.station i).pendingOwner with
  | none => s
  | some r => (s.setStation i (s.movedRecord i r)).raise .steerDone

/-- The hand-over's steps 3 to 5: READY at the tail of its ring, DOZING, or IDLE, by queue and power. -/
def State.chooseNext (s : State) (i : StationIndex) : State :=
  if (s.station i).queue.isEmpty then s.setStation i { s.station i with state := .idle }
  else if (s.station i).power = .doze then s.setStation i { s.station i with state := .dozing }
  else s.enterReady i

/-- STB takes a station whose grant has ended to its next state (R25): the grant tag is removed; a
dismiss-marked station goes FREE and STATION_FREED is raised (R33); else a pending move is applied and
the state is chosen. -/
def State.handOver (s : State) (i : StationIndex) : State :=
  let t := s.setStation i { s.station i with grantTag := none }
  if (s.station i).dismissMark then (t.freeStation i).raise .stationFreed
  else (t.applyPending i).chooseNext i

/-- The record of a grant is freed (R111 step 5). -/
def State.dropGrant (s : State) (r : Radio) (tag : Byte) : State :=
  s.setRadio r { s.radio r with grants := (s.radio r).grants.eraseP fun g => g.tag = tag }

/-! ### Frames of a grant end (R111 step 1) -/

/-- What becomes of a lent frame: retired with a reason, or a survivor that would return. -/
inductive Fate where
  | retired (n : Notice)
  | survives (f : Slot)
  deriving DecidableEq, Repr

/-- The fate of one frame at a REPORT (R114). -/
def frameFate (limit : Nat) (f : Slot) : FrameOutcome → Fate
  | .delivered => .retired ⟨f, .delivered⟩
  | .failed =>
    if limit ≤ f.retry + 1 then .retired ⟨{ f with retry := f.retry + 1 }, .retryLimit⟩
    else .survives { f with retry := f.retry + 1 }
  | .unsent => .survives f

/-- Under a dismiss mark a survivor is retired DISMISSED in its place instead of returning (R33, R115). -/
def Fate.underMark (mark : Bool) : Fate → Fate
  | .retired n => .retired n
  | .survives f => if mark then .retired ⟨f, .dismissed⟩ else .survives f

/-- The retirements among fates, in grant order. -/
def retirements (fates : List Fate) : List Notice :=
  fates.filterMap fun
    | .retired n => some n
    | .survives _ => none

/-- The slots that return to the queue, in grant order. -/
def returns (fates : List Fate) : List Slot :=
  fates.filterMap fun
    | .retired _ => none
    | .survives f => some f

/-- Step 1 of a grant end: each frame is retired or returned by its fate, in grant order; under a dismiss
mark none returns (R111, R115). -/
def State.settleFrames (s : State) (i : StationIndex) (fates : List Fate) : State :=
  let fates := fates.map (Fate.underMark (s.station i).dismissMark)
  (s.returnSlots i (returns fates)).retireAll (retirements fates)

/-- Every frame of a grant treated as UNSENT (R120, R121). -/
def unsentFates (g : Grant) : List Fate := g.frames.map fun f => frameFate 0 f .unsent

/-! ### WITHDRAW and the ends of a radio-link reset -/

/-- The refund of R15: the deficit gets the estimate back, the grant's counter loses it. -/
def State.refundGrant (s : State) (r : Radio) (g : Grant) : State :=
  (s.setStation g.station { s.station g.station with
    deficit := (s.station g.station).deficit + g.estimate }).refundCounter r g.group g.pass g.estimate

/-- A grant ends as withdrawn (R120 steps 1 to 5, R123). -/
def State.endWithdrawn (s : State) (r : Radio) (g : Grant) : State :=
  ((((s.settleFrames g.station (unsentFates g)).refundGrant r g).handOver g.station).dropGrant r g.tag)

/-- WITHDRAW as the grant table takes it (R120). -/
def withdrawTaken (r : Radio) (tag : Byte) (s : State) : State :=
  match (s.radio r).findGrant tag with
  | none => s.refuseRadio r Kind.withdrawReq .stale
  | some g => (s.endWithdrawn r g).answer (.radio r) (.taken Kind.withdrawReq (tag.setWidth 16))

/-- WITHDRAW (R120). -/
def execWithdraw (r : Radio) (tag : Byte) (s : State) : Result :=
  s.onRadio r Kind.withdrawReq (withdrawTaken r tag s)

/-! ### REPORT -/

/-- The outcomes of a REPORT, if each names one of the three (R112 order 5). -/
def outcomesOf (fields : List (BitVec 2)) : Option (List FrameOutcome) := fields.mapM outcomeOf

/-- The fates of a grant's frames: the n-th outcome applies to the n-th frame (R114). -/
def reportFates (limit : Nat) (g : Grant) (outcomes : List FrameOutcome) : List Fate :=
  List.zipWith (frameFate limit) g.frames outcomes

/-- The number of fates that are retirements with a reason. -/
def countRetired (reason : Reason) (fates : List Fate) : Nat :=
  (retirements fates).countP fun n => n.reason = reason

/-- The station fields a REPORT settles: the correction of the deficit (R13), the counters (R41), the
rate (R116), and the settle window, which airtime above 0 reported by the owner radio ends (R117). -/
def reportedStation (r : Radio) (st : Station) (g : Grant) (actual : Nat) (rate : BitVec 16)
    (fates : List Fate) : Station :=
  { st with
    deficit := st.deficit + ((g.estimate : Int) - actual)
    airtimeTotal := st.airtimeTotal + BitVec.ofNat 32 actual
    delivered := st.delivered + BitVec.ofNat 32 (countRetired .delivered fates)
    dropped := st.dropped + BitVec.ofNat 32 (countRetired .retryLimit fates)
    rate := noteRate st.rate rate
    settle := if st.owner = r ∧ 0 < actual then none else st.settle }

/-- A grant ends by REPORT: frames, charge, station fields, hand-over, record (R111, R114 to R118). -/
def State.endReported (s : State) (r : Radio) (g : Grant) (actual : Nat) (rate : BitVec 16)
    (outcomes : List FrameOutcome) : State :=
  let fates := reportFates (s.group g.group).retryLimit g outcomes
  let t := (s.settleFrames g.station fates).correctCounter r g.group g.pass actual g.estimate
  (((t.setStation g.station (reportedStation r (t.station g.station) g actual rate fates)).handOver
    g.station).dropGrant r g.tag)

/-- REPORT as the grant table takes it, with orders 3 to 5 of R112. -/
def reportTaken (r : Radio) (tag : Byte) (airtime rate : BitVec 16) (fields : List (BitVec 2))
    (s : State) : State :=
  match (s.radio r).findGrant tag with
  | none => s.refuseRadio r Kind.reportReq .stale
  | some g =>
    if fields.length ≠ g.frames.length then s.refuseRadio r Kind.reportReq .mismatch
    else match outcomesOf fields with
      | none => s.refuseMalformed (.radio r) Kind.reportReq
      | some outcomes =>
        (s.endReported r g (clampAirtime airtime) rate outcomes).answer (.radio r)
          (.taken Kind.reportReq (tag.setWidth 16))

/-- REPORT (R112 to R118). -/
def execReport (r : Radio) (tag : Byte) (airtime rate : BitVec 16) (fields : List (BitVec 2))
    (s : State) : Result :=
  s.onRadio r Kind.reportReq (reportTaken r tag airtime rate fields s)

/-! ### Timeout -/

/-- A grant ends by timeout: every frame as UNSENT, the charge standing, the airtime total increased by
the estimate, one timeout counted and reported (R14, R121). -/
def State.endTimedOut (s : State) (r : Radio) (g : Grant) : State :=
  let t := s.settleFrames g.station (unsentFates g)
  let t := ((t.setStation g.station { t.station g.station with
    airtimeTotal := (t.station g.station).airtimeTotal + BitVec.ofNat 32 g.estimate }).handOver
      g.station).dropGrant r g.tag
  (t.setRadio r { t.radio r with
    counters := { (t.radio r).counters with
      timeouts := (t.radio r).counters.timeouts + 1 } }).raise (timeoutEvent r)

/-- The expiry of a grant's timer (R121). A removed timer, or one with time left, does not expire (R111;
log 3). -/
def execGrantTimeout (r : Radio) (tag : Byte) (s : State) : Result :=
  s.onExpiry (match (s.radio r).findGrant tag with
    | none => s
    | some g => if g.due then s.endTimedOut r g else s)

end Sys2Proof.Machine
end

