-- ==== Sys2Proof/Machine/Groups.lean ====
section
/-! DEFINITION. The Group Unit's requests and its epoch timer (chapter 4): GROUP SET, GROUP READ,
PROFILE SAVE, PROFILE RESTORE, the epoch expiry. -/

namespace Sys2Proof.Machine

/-- The settings of a group as GROUP SET and GROUP READ answer them (R65, R66, R184). -/
def State.groupBody (s : State) (g : GroupIndex) : Body :=
  .groupSettings g s.stack.length (s.group g)

/-- GROUP SET as it is taken: the thirteen clamped settings replace the group's, and the answer carries
them as written (R65). -/
def groupSetTaken (group : Byte) (block : GroupBlock) (s : State) : State :=
  match groupOf group with
  | none => s.replyHeader Kind.groupSet .range
  | some g =>
    let t := { s with profile := s.profile.set g (groupSettingsOf block) }
    t.reply Kind.groupSet (writeCode (groupAdjusted block)) (t.groupBody g)

/-- GROUP SET (R65). -/
def execGroupSet (group : Byte) (block : GroupBlock) (s : State) : Result :=
  s.onControl (groupSetTaken group block s)

/-- GROUP READ as it is taken (R66). -/
def groupReadTaken (group : Byte) (s : State) : State :=
  match groupOf group with
  | none => s.replyHeader Kind.groupRead .range
  | some g => s.reply Kind.groupRead .done (s.groupBody g)

/-- GROUP READ (R66). -/
def execGroupRead (group : Byte) (s : State) : Result := s.onControl (groupReadTaken group s)

/-- PROFILE SAVE as it is taken: a copy of the active profile is pushed, or STACK_FULL at depth 4
(R76). The most recently saved profile is the head of the list. -/
def profileSaveTaken (s : State) : State :=
  if Config.stackDepth ≤ s.stack.length then s.replyHeader Kind.profileSave .stackFull
  else
    { s with stack := s.profile :: s.stack }.reply Kind.profileSave .done
      (.stackDepth (s.stack.length + 1))

/-- PROFILE SAVE (R76). -/
def execProfileSave (s : State) : Result := s.onControl (profileSaveTaken s)

/-- PROFILE RESTORE as it is taken: the most recent entry is popped and becomes the active profile, or
STACK_EMPTY at depth 0 (R77). -/
def profileRestoreTaken (s : State) : State :=
  match s.stack with
  | [] => s.replyHeader Kind.profileRestore .stackEmpty
  | p :: rest =>
    { s with profile := p, stack := rest }.reply Kind.profileRestore .done (.stackDepth rest.length)

/-- PROFILE RESTORE (R77). -/
def execProfileRestore (s : State) : Result := s.onControl (profileRestoreTaken s)

/-- The end of an epoch: every group of the radio is rolled over with the caps of the epoch now ending,
and the next epoch begins at once (R72). -/
def State.endEpoch (s : State) (r : Radio) : State :=
  (s.rollover r).setRadio r ((s.rollover r).radio r).startEpoch

/-- The expiry of a radio's epoch timer (R72). A stopped timer, or one with time left, does not expire
(R74; log 3). -/
def execEpochTimerExpiry (r : Radio) (s : State) : Result :=
  s.onExpiry (if (s.radio r).epoch.due then s.endEpoch r else s)

end Sys2Proof.Machine
end

