-- ==== Sys2Proof/Machine/Links.lean ====
section
/-! DEFINITION. The three link ports (chapter 9): LINK START, the radio-link reset, the records a port
refuses or discards, the request buffers, the link-clock watch, the reset input and DEVICE RESET. -/

namespace Sys2Proof.Machine

/-! ### The radio-link reset (R166) -/

/-- Step 2: every outstanding grant ends as withdrawn, the grant formed first ending first (R123). -/
def State.endGrants (s : State) (r : Radio) : State :=
  (s.radio r).grants.foldl (fun t g => t.endWithdrawn r g) s

/-- Steps 3 and 4: the epoch timer stops with its remaining time held, the watch stops, the link goes
DOWN. -/
def State.takeDown (s : State) (r : Radio) : State :=
  s.setRadio r { s.radio r with
    epoch := { (s.radio r).epoch with running := false }, watch := none, linkUp := false }

/-- The radio-link reset from step 2 on: grants, epoch, link, event (R166). -/
def State.radioLinkReset (s : State) (r : Radio) : State :=
  ((s.endGrants r).takeDown r).raise (linkLostEvent r)

/-- Step 1 at link loss: every request of the port not yet taken is discarded unanswered, its buffers are
empty, and what has not been sent of an answer is lost (R165, R166). -/
def State.emptyPort (s : State) (r : Radio) : State :=
  (s.discardUntaken (.radio r) 0).setPort (.radio r) .empty

/-! ### LINK START -/

/-- The four steps of R164: next grant tag 0, a fresh epoch with all group counters 0, the watch at 0,
the link UP. -/
def State.bringUp (s : State) (r : Radio) : State :=
  s.setRadio r { (s.radio r).startEpoch with
    nextTag := 0, usage := #v[0, 0, 0, 0], borrowed := #v[0, 0, 0, 0], watch := some 0,
    linkUp := true }

/-- LINK START as the port takes it: on an UP link the radio-link reset is made first, with the buffers
kept (R164, R166). -/
def linkStartTaken (r : Radio) (s : State) : State :=
  ((if (s.radio r).linkUp then s.radioLinkReset r else s).bringUp r).answer (.radio r) (.linkReady r)

/-- LINK START (R164). -/
def execLinkStart (r : Radio) (s : State) : Result :=
  .next (if s.ignores (.radio r) then s else linkStartTaken r s)

/-! ### Records the ports refuse or discard -/

/-- A buffered record that fails check 1, 3 or 4 of R161, in their order with check 2: a kind that is no
request kind of the link is refused MALFORMED; on a DOWN radio link any other kind but LINK START is
refused LINK_DOWN, without a report; the rest is refused MALFORMED. -/
def malformedTaken (link : Link) (kind : Byte) (s : State) : State :=
  match link with
  | .control => s.refuseMalformed .control kind
  | .radio r =>
    if isRequestKind (.radio r) kind && !(s.radio r).linkUp && kind ≠ Kind.linkStart then
      s.refuseRadio r kind .linkDown
    else s.refuseMalformed (.radio r) kind

/-- MALFORMED_RECORD (R161). -/
def execMalformedRecord (link : Link) (kind : Byte) (s : State) : Result :=
  .next (if s.ignores link then s else malformedTaken link kind s)

/-- A record without a whole word is discarded unanswered and reported; it claims no buffer (R157). -/
def execRecordWithoutHeader (link : Link) (s : State) : Result := .next (s.discardRecord link)

/-- A record begun while the ready line is low is discarded unanswered and reported (R159). -/
def execRecordWhileNotReady (link : Link) (s : State) : Result := .next (s.discardRecord link)

/-! ### Request buffers (R158) -/

/-- The first word of a request record claims a free buffer (R158). With no free buffer the ready line is low:
the record is discarded and reported, and the requests in the buffers are unaffected (R159; log 10). Where
records on the link are ignored so is this one (R168, R169). The request of a record discarded or ignored, if
it waits already, is not taken (log 21). -/
def execRequestRecordBegins (link : Link) (s : State) : Result :=
  .next (if s.ignores link then s.discardUntaken link 0
    else if s.ready link then
      s.setPort link { s.port link with claimed := (s.port link).claimed + 1 }
    else (s.discardUntaken link (s.port link).untaken).discardRecord link)

/-- The last word of an answer has been sent: the answer leaves the port and its buffer is free (R158).
On the Control Link that ends the wait after DEVICE RESET (R169). Without an answer none is sent (log 5). -/
def execAnswerSent (link : Link) (s : State) : Result :=
  match (s.port link).answers with
  | [] => .next s
  | _ :: rest =>
    let t := s.setPort link ⟨(s.port link).claimed - 1, rest⟩
    .next (if link = .control then { t with resetAnswerDue := false } else t)

/-! ### The link-clock watch (R165) -/

/-- An edge of a radio's request clock sets the watch back to 0 while the link is UP. -/
def execRequestClockEdge (r : Radio) (s : State) : Result :=
  .next (if (s.radio r).linkUp then s.setRadio r { s.radio r with watch := some 0 } else s)

/-- 100 µs without an edge: on an UP link the radio-link reset with its buffers discarded (R165). On a DOWN
link the watch is stopped and nothing happens (R162), and a shorter gap has no effect (R165; log 3). -/
def execLinkClockAbsent (r : Radio) (s : State) : Result :=
  .next (if (s.radio r).clockAbsent then (s.emptyPort r).radioLinkReset r else s)

/-! ### Device resets -/

/-- The reset input goes low: the part is held in device reset (R168). -/
def execResetInputLow (s : State) : Result := .next { s.deviceReset with resetInput := false }

/-- The reset input returns high: the part leaves reset with its reset values (R168). -/
def execResetInputHigh (s : State) : Result := .next { s with resetInput := true }

/-- DEVICE RESET as it is taken: a device reset, and DONE as the first record after it. Until that answer
has been sent the Control Link is not ready (R169). -/
def deviceResetTaken (s : State) : State :=
  { s.deviceReset with resetAnswerDue := true }.replyHeader Kind.deviceReset .done

/-- DEVICE RESET (R169). -/
def execDeviceReset (s : State) : Result := s.onControl (deviceResetTaken s)

end Sys2Proof.Machine
end

