-- ==== Sys2Proof/Machine/Offers.lean ====
section
/-! DEFINITION. The Opportunity Schedulers (chapter 5): OFFER with its walk, visits, frame selection and
grant formation, RADIO SET and RADIO READ. -/

namespace Sys2Proof.Machine

/-! ### The tests of a frame -/

/-- A slot is expired: its group has a lifetime and its age modulo 2^32 is at least that (R55). -/
def slotExpired (clock : BitVec 32) (lifetime : Nat) (f : Slot) : Bool :=
  lifetime ≠ 0 && lifetime ≤ (clock - f.stamp).toNat

/-- The rate in use for a station on a radio (R2). -/
def State.stationRate (s : State) (r : Radio) (i : StationIndex) : Nat :=
  rateInUse (s.radio r).settings (s.station i).rate

/-- The time of a slot's frame for a station on a radio (R4, R6). -/
def State.slotTime (s : State) (r : Radio) (i : StationIndex) (f : Slot) : Nat :=
  frameTime (s.radio r).settings (s.stationRate r i) f.length

/-- The single-frame estimate of a slot for a station on a radio (R5, R6). -/
def State.slotEstimate (s : State) (r : Radio) (i : StationIndex) (f : Slot) : Nat :=
  singleEstimate (s.radio r).settings (s.stationRate r i) f.length

/-- Why a slot met at a visit is dropped, the expiry test first; `none` if it is kept (R56). -/
def State.dropReason (s : State) (r : Radio) (i : StationIndex) (f : Slot) : Option Reason :=
  if slotExpired s.msClock (s.groupOfStation i).lifetime f then some .expired
  else if (s.groupOfStation i).ceiling < s.slotEstimate r i f then some .oversize
  else none

/-! ### Head drops (R56, R92) -/

/-- The head slots of a queue that are dropped, with their reasons, and the queue that stays: the drops
end at the first slot that is neither expired nor oversize (R56). -/
def splitDrops (reason : Slot → Option Reason) : List Slot → List Notice × List Slot
  | [] => ([], [])
  | f :: fs =>
    match reason f with
    | some why => let rest := splitDrops reason fs; (⟨f, why⟩ :: rest.1, rest.2)
    | none => ([], f :: fs)

/-- Retire slots dropped at a visit and count them in the station's frames dropped; `kept` is the queue
they leave (R41, R56). -/
def State.dropFrames (s : State) (i : StationIndex) (drops : List Notice) (kept : List Slot) : State :=
  (s.setStation i { s.station i with
      queue := kept
      dropped := (s.station i).dropped + BitVec.ofNat 32 drops.length }).retireAll drops

/-- The first step of a visit: the head drops (R92). -/
def State.headDrops (s : State) (r : Radio) (i : StationIndex) : State :=
  let split := splitDrops (s.dropReason r i) (s.station i).queue
  s.dropFrames i split.1 split.2

/-! ### Frame selection (R96) -/

/-- What frame selection leaves: the frames taken, the slots retired in passing, the slots that stay
queued, and the sum of the frame times taken. -/
structure Selection where
  taken : List Slot
  drops : List Notice
  kept : List Slot
  sum : Nat
  deriving DecidableEq, Repr

/-- Frame selection over the slots behind the head (R96). `n` frames are taken so far and their times sum
to `sum`; `fits` says whether a sum's estimate is within the budget. -/
def selectFrames (reason : Slot → Option Reason) (time : Slot → Nat) (fits : Nat → Bool) :
    Nat → Nat → List Slot → Selection
  | _, sum, [] => ⟨[], [], [], sum⟩
  | n, sum, f :: fs =>
    match reason f with
    | some why =>
      let rest := selectFrames reason time fits n sum fs
      { rest with drops := ⟨f, why⟩ :: rest.drops }
    | none =>
      if n = Config.framesPerGrant then ⟨[], [], f :: fs, sum⟩
      else if fits (sum + time f) then
        let rest := selectFrames reason time fits (n + 1) (sum + time f) fs
        { rest with taken := f :: rest.taken }
      else ⟨[], [], f :: fs, sum⟩

/-- Frame selection for a station whose head frame has passed the tests of a visit: the head is frame 1,
the rest of the queue is examined in order (R96). -/
def State.selection (s : State) (r : Radio) (i : StationIndex) (budget : Nat) (head : Slot)
    (rest : List Slot) : Selection :=
  let sel := selectFrames (s.dropReason r i) (s.slotTime r i)
    (fun sum => estimate (s.radio r).settings sum ≤ budget) 1 (s.slotTime r i head) rest
  { sel with taken := head :: sel.taken }

/-! ### Grant formation (R98) -/

/-- The tag of the next grant: the next grant tag, or the value after it if an outstanding grant of the
radio carries it (R97). -/
def RadioUnit.grantTag (u : RadioUnit) : Byte :=
  if u.nextTag ∈ u.grants.map (·.tag) then u.nextTag + 1 else u.nextTag

/-- The grant record that formation creates (R98 step 7). -/
def State.newGrant (s : State) (r : Radio) (i : StationIndex) (pass : PassKind) (budget : Nat)
    (sel : Selection) : Grant where
  tag := (s.radio r).grantTag
  station := i
  pass := pass
  group := (s.station i).group
  frames := sel.taken
  estimate := estimate (s.radio r).settings sel.sum
  budget := budget
  rate := s.stationRate r i
  timer := usToCycles (s.radio r).settings.grantTimeout

/-- Take the station of a grant to GRANTED and out of its ring, with the provisional charge on its
deficit (R12, R98 steps 2, 4 and 5). -/
def State.lendTo (s : State) (r : Radio) (g : Grant) : State :=
  (s.leaveRing r g.group g.station).setStation g.station { s.station g.station with
    state := .granted, grantTag := some g.tag
    deficit := (s.station g.station).deficit - g.estimate }

/-- Enter a grant in its radio's grant table, advance the next grant tag past it and count it (R97, R98
steps 3, 7 and 8). -/
def State.recordGrant (s : State) (r : Radio) (g : Grant) : State :=
  s.setRadio r { s.radio r with
    grants := (s.radio r).grants ++ [g]
    nextTag := g.tag + 1
    counters := { (s.radio r).counters with
      grantsFormed := (s.radio r).counters.grantsFormed + 1 } }

/-- Grant formation as one step of the walk: the retirements in passing, the lending, the charge and the
grant record (R98). -/
def State.formGrant (s : State) (r : Radio) (i : StationIndex) (pass : PassKind) (budget : Nat)
    (sel : Selection) : State × Grant :=
  let g := s.newGrant r i pass budget sel
  let t := (s.dropFrames i sel.drops sel.kept).lendTo r g
  ((t.chargeCounter r g.group pass g.estimate).recordGrant r g, g)

/-! ### The walk (R87) -/

/-- An offer walk: the part's state, the visits still allowed, whether a station has been passed over in
this OFFER, and the grant that ended the walk. -/
structure Walk where
  state : State
  visits : Nat
  passedOver : Bool
  grant : Option Grant
  deriving DecidableEq, Repr

/-- Rotate the ring of a group. -/
def State.rotateRing (s : State) (r : Radio) (g : GroupIndex) : State :=
  s.setRing r g (rotate ((s.radio r).ring g))

/-- The second step of a visit for a station whose queue the drops emptied: IDLE and out of its ring
(R92). -/
def State.visitEmpty (s : State) (r : Radio) (g : GroupIndex) (i : StationIndex) : State :=
  (s.leaveRing r g i).setStation i { s.station i with state := .idle }

/-- The third step of a visit for a station with a deficit below 0: a credit and a rotation (R93). -/
def State.visitCredit (s : State) (r : Radio) (g : GroupIndex) (i : StationIndex) : State :=
  (s.rotateRing r g).setStation i { s.station i with
    deficit := (s.station i).deficit +
      effectiveQuantum (s.groupOfStation i).quantum (s.station i).weight }

/-- The fourth step of a visit for a station whose head frame exceeds the budget: a rotation and the
passed-over mark (R94). -/
def State.visitPassOver (s : State) (r : Radio) (g : GroupIndex) (i : StationIndex) : State :=
  let t := s.rotateRing r g
  t.setRadio r { t.radio r with marks := i :: (t.radio r).marks }

/-- The visit of a station at the head of a group's ring (R91 to R94). It counts once against the visit
budget whichever step ends it (R95). -/
def Walk.visit (w : Walk) (r : Radio) (pass : PassKind) (offer : Nat) (g : GroupIndex)
    (i : StationIndex) : Walk :=
  let w := { w with visits := w.visits - 1 }
  let budget := w.state.budget r g pass offer
  let s := w.state.headDrops r i
  match (s.station i).queue with
  | [] => { w with state := s.visitEmpty r g i }
  | f :: rest =>
    if (s.station i).deficit < 0 then { w with state := s.visitCredit r g i }
    else if budget < s.slotEstimate r i f then
      { w with state := s.visitPassOver r g i, passedOver := true }
    else
      let formed := s.formGrant r i pass budget (s.selection r i budget f rest)
      { w with state := formed.1, grant := some formed.2 }

/-- The head of a ring past its marked members: rotations without a visit, which are not counted (R89). -/
def skipMarked (marks ring : List StationIndex) : List StationIndex :=
  ring.dropWhile (· ∈ marks) ++ ring.takeWhile (· ∈ marks)

/-- A group's turn (R89): examinations of the ring's head until the ring is empty, every member is
marked, a grant is formed, or the visits run out. The number counts the visits left. -/
def Walk.turn (r : Radio) (pass : PassKind) (offer : Nat) (g : GroupIndex) : Nat → Walk → Walk
  | 0, w => w
  | n + 1, w =>
    let s := w.state
    let ring := skipMarked (s.radio r).marks ((s.radio r).ring g)
    match ring with
    | [] => w
    | i :: _ =>
      if i ∈ (s.radio r).marks then w
      else
        let w := { w with state := s.setRing r g ring }.visit r pass offer g i
        if w.grant.isSome then w else w.turn r pass offer g n

/-- Whether a group is tried as its turn comes: its ring is non-empty, and it is within cap in the cap
pass or has borrow set in the borrow pass (R88, R90). -/
def State.tried (s : State) (r : Radio) (pass : PassKind) (g : GroupIndex) : Bool :=
  !((s.radio r).ring g).isEmpty &&
    match pass with
    | .cap => s.withinCap r g
    | .borrow => (s.group g).borrow

/-- One group of a pass: its turn, unless the walk has ended or the group is passed by. -/
def Walk.tryGroup (w : Walk) (r : Radio) (pass : PassKind) (offer : Nat) (g : GroupIndex) : Walk :=
  if w.grant.isNone && w.state.tried r pass g then w.turn r pass offer g w.visits else w

/-- A pass over the groups in precedence order, group 0 first (R88, R90). -/
def Walk.overGroups (w : Walk) (r : Radio) (pass : PassKind) (offer : Nat) : Walk :=
  (List.finRange 4).foldl (fun w g => w.tryGroup r pass offer g) w

/-- Clear every passed-over mark of a radio (R87). -/
def State.clearMarks (s : State) (r : Radio) : State :=
  s.setRadio r { s.radio r with marks := [] }

/-- The walk of an OFFER: the cap pass, then the borrow pass if the cap pass ended without a grant and
the visits are not spent, its marks cleared at the start (R87, R90). -/
def State.walk (s : State) (r : Radio) (offer : Nat) : Walk :=
  let w := Walk.overGroups ⟨s, Config.visitBudget, false, none⟩ r .cap offer
  if w.grant.isSome || w.visits = 0 then w
  else { w with state := w.state.clearMarks r }.overGroups r .borrow offer

/-! ### OFFER -/

/-- The PASS reason of a walk that formed no grant: the first condition of R100 that holds. -/
def Walk.reason (w : Walk) (r : Radio) : PassReason :=
  if w.visits = 0 then .searchLimit
  else if (List.finRange 4).all fun g => ((w.state.radio r).ring g).isEmpty then .noBacklog
  else if w.passedOver then .tooShort
  else .capped

/-- The PASS count of a reason increases by 1 (R106). -/
def RadioCounters.countPass (c : RadioCounters) : PassReason → RadioCounters
  | .frozen => { c with passFrozen := c.passFrozen + 1 }
  | .windowFull => { c with passWindowFull := c.passWindowFull + 1 }
  | .noBacklog => { c with passNoBacklog := c.passNoBacklog + 1 }
  | .capped => { c with passCapped := c.passCapped + 1 }
  | .tooShort => { c with passTooShort := c.passTooShort + 1 }
  | .searchLimit => { c with passSearchLimit := c.passSearchLimit + 1 }

/-- Answer an OFFER PASS and count its reason (R100, R106). -/
def State.answerPass (s : State) (r : Radio) (reason : PassReason) : State :=
  (s.setRadio r { s.radio r with counters := (s.radio r).counters.countPass reason }).answer
    (.radio r) (.pass reason)

/-- Answer an OFFER after its walk, with every passed-over mark cleared (R87, R99, R100). -/
def Walk.finish (w : Walk) (r : Radio) : State :=
  match w.grant with
  | some g => (w.state.clearMarks r).answer (.radio r) (.grant g)
  | none => (w.state.clearMarks r).answerPass r (w.reason r)

/-- OFFER as the scheduler takes it, with the conditions of R86 in their order. -/
def offerTaken (r : Radio) (airtime : BitVec 16) (s : State) : State :=
  if s.frozen then s.answerPass r .frozen
  else if Config.grantWindow ≤ (s.radio r).grants.length then s.answerPass r .windowFull
  else ((s.clearMarks r).walk r (clampOffer airtime)).finish r

/-- OFFER (R86). -/
def execOffer (r : Radio) (airtime : BitVec 16) (s : State) : Result :=
  s.onRadio r Kind.offerReq (offerTaken r airtime s)

/-! ### RADIO SET, RADIO READ -/

/-- RADIO SET as it is taken: the five clamped settings replace the radio's, and the answer carries them
as written (R103). -/
def radioSetTaken (radio : BitVec 2) (block : RadioBlock) (s : State) : State :=
  match radioOf radio with
  | none => s.replyHeader Kind.radioSet .range
  | some r =>
    (s.setRadio r { s.radio r with settings := radioSettingsOf block }).reply Kind.radioSet
      (writeCode (radioAdjusted block)) (.radioSettings r (radioSettingsOf block))

/-- RADIO SET (R103). -/
def execRadioSet (radio : BitVec 2) (block : RadioBlock) (s : State) : Result :=
  s.onControl (radioSetTaken radio block s)

/-- The figures of a group on a radio (R105). -/
def State.groupFigures (s : State) (r : Radio) (g : GroupIndex) : GroupFigures where
  usage := s.usage r g
  cap := s.capOf r g
  borrowed := s.borrowed r g
  ringLength := ((s.radio r).ring g).length

/-- The figures of a radio (R105). -/
def State.radioFigures (s : State) (r : Radio) : RadioFigures where
  radio := r
  linkUp := (s.radio r).linkUp
  settings := (s.radio r).settings
  epochRunning := (s.radio r).epoch.running
  epochRemainingUs := cyclesToUs (s.radio r).epoch.remaining
  epochInForce := (s.radio r).epochLength
  groups := (List.finRange 4).map (s.groupFigures r)
  counters := (s.radio r).counters
  nextTag := (s.radio r).nextTag
  grants := (s.radio r).grants.map fun g => (g.tag, g.station)

/-- RADIO READ as it is taken (R105). -/
def radioReadTaken (radio : BitVec 2) (s : State) : State :=
  match radioOf radio with
  | none => s.replyHeader Kind.radioRead .range
  | some r => s.reply Kind.radioRead .done (.radioFigures (s.radioFigures r))

/-- RADIO READ (R105). -/
def execRadioRead (radio : BitVec 2) (s : State) : Result := s.onControl (radioReadTaken radio s)

end Sys2Proof.Machine
end

