-- ==== Sys2Proof/Machine/Queues.lean ====
section
/-! DEFINITION. The Descriptor Pool's requests (chapter 3): QUEUE, PURGE, COLLECT, and the millisecond
clock. -/

namespace Sys2Proof.Machine

/-! ### QUEUE -/

/-- The pool-pressure test refuses: the free count is below the pool reserve and the station's queue is
longer than the average of the backlogged stations (R50). -/
def State.poolPressure (s : State) (i : StationIndex) : Bool :=
  s.freeCount < s.device.poolReserve && s.backloggedCount ≠ 0 &&
    s.queuedCount / s.backloggedCount < (s.station i).queue.length

/-- The outcome of one entry: the first check of R49 that holds. -/
def State.entryOutcome (s : State) (i : StationIndex) (e : QueueEntry) : Code :=
  if !(s.station i).actionable then .noStation
  else if e.length.toNat = 0 ∨ 8191 < e.length.toNat then .badLength
  else if (s.groupOfStation i).queueLimit ≤ (s.station i).queue.length then .queueLimit
  else if s.freeCount = 0 then .poolFull
  else if s.poolPressure i then .poolPressure
  else .done

/-- An accepted entry takes a free slot and joins the tail of the station's queue, stamped with the
millisecond clock (R51). POOL_LOW is reported if the free count falls from the reserve to below it
(R62). -/
def State.acceptEntry (s : State) (i : StationIndex) (e : QueueEntry) : State :=
  (s.setStation i { s.station i with
      queue := (s.station i).queue ++ [⟨e.handle, e.length.toNat, i, s.msClock, 0⟩] }).raiseIf
    (s.device.poolReserve ≤ s.freeCount ∧ s.freeCount - 1 < s.device.poolReserve) .poolLow

/-- The entries of a QUEUE evaluated in list order, each against the state the ones before it left; the
outcomes in order (R49). -/
def State.evaluateEntries (s : State) (i : StationIndex) : List QueueEntry → State × List Code
  | [] => (s, [])
  | e :: es =>
    let code := s.entryOutcome i e
    let rest := (if code = .done then s.acceptEntry i e else s).evaluateEntries i es
    (rest.1, code :: rest.2)

/-- STB is told that a QUEUE accepted descriptors: the IDLE and HOLDING rows of R24, with the hold of
R129 and R130. -/
def State.queueGrew (s : State) (i : StationIndex) : State :=
  let st := s.station i
  let g := s.groupOfStation i
  match st.state with
  | .idle =>
    if st.power = .doze then s.setStation i { st with state := .dozing }
    else if g.holdTime = 0 ∨ g.releaseCount ≤ st.queue.length then s.enterReady i
    else s.setStation i { st with state := .holding, hold := some (usToCycles g.holdTime) }
  | .holding => if g.releaseCount ≤ st.queue.length then s.enterReady i else s
  | _ => s

/-- The effect of a QUEUE that is evaluated: its entries, and R24 if any was accepted (R51). -/
def State.queueEntries (s : State) (i : StationIndex) (entries : List QueueEntry) :
    State × List Code :=
  let done := s.evaluateEntries i entries
  (if Code.done ∈ done.2 then done.1.queueGrew i else done.1, done.2)

/-- QUEUE as it is taken: RANGE for an index above 511 or an entry count outside 1 to 16, else DONE with
the outcomes and the queue length (R48). More than 126 entries fit in no record (R183). -/
def queueTaken (index : BitVec 16) (entries : List QueueEntry) (s : State) : State :=
  if 126 < entries.length then s.refuseMalformed .control Kind.queueReq
  else match stationOf index with
    | none => s.replyHeader Kind.queueReq .range
    | some i =>
      if entries.length = 0 ∨ 16 < entries.length then s.replyHeader Kind.queueReq .range
      else
        let done := s.queueEntries i entries
        done.1.reply Kind.queueReq .done
          (.queueOutcomes i (done.1.station i).queue.length done.2)

/-- QUEUE (R48 to R51). -/
def execQueue (index : BitVec 16) (entries : List QueueEntry) (s : State) : Result :=
  s.onControl (queueTaken index entries s)

/-! ### PURGE -/

/-- The effect of a PURGE: the queue is retired PURGED, and a HOLDING, READY or DOZING station goes IDLE
with its hold cancelled and out of its ring; a GRANTED station keeps its grant (R57). -/
def State.purgeStation (s : State) (i : StationIndex) : State :=
  let t := (s.exitRing i).retireQueue i .purged
  if (s.station i).state = .granted then t
  else t.setStation i { t.station i with state := .idle, hold := none }

/-- PURGE as it is taken (R57). -/
def purgeTaken (index : BitVec 16) (s : State) : State :=
  s.onStation Kind.purgeReq index fun i =>
    (s.purgeStation i).reply Kind.purgeReq .done (.purged (s.station i).queue.length)

/-- PURGE (R57). -/
def execPurge (index : BitVec 16) (s : State) : Result := s.onControl (purgeTaken index s)

/-! ### COLLECT -/

/-- COLLECT as it is taken: the oldest notices leave the release list and their slots are free (R60). -/
def collectTaken (count : Byte) (s : State) : State :=
  if count.toNat = 0 ∨ 32 < count.toNat then s.replyHeader Kind.collectReq .range
  else
    { s with releaseList := s.releaseList.drop count.toNat }.reply Kind.collectReq .done
      (.notices (s.releaseList.take count.toNat) (s.releaseList.length - count.toNat))

/-- COLLECT (R60). -/
def execCollect (count : Byte) (s : State) : Result := s.onControl (collectTaken count s)

/-! ### The millisecond clock -/

/-- The end of a millisecond of unfrozen time: the clock advances by 1, wrapping (R54), and a new
millisecond begins. Within a millisecond the clock does not advance (log 3). -/
def execMillisecondClockAdvance (s : State) : Result :=
  s.onExpiry (if s.millisecondDue then { s with msClock := s.msClock + 1, msPhase := 0 } else s)

end Sys2Proof.Machine
end

