-- ==== Sys2Proof/Machine/Readiness.lean ====
section
/-! DEFINITION. Station readiness (chapter 7): the expiry of the hold and NOTE. -/

namespace Sys2Proof.Machine

/-- The expiry of a station's hold timer: HOLDING to READY at the tail of its ring (R131). A stopped timer,
or one with time left, does not expire: so no expiry follows a cancelled hold (R132; log 3). -/
def execHoldTimerExpiry (i : StationIndex) (s : State) : Result :=
  s.onExpiry (if (s.station i).holdDue then s.enterReady i else s)

/-- The power part of a TAKEN NOTE, by the station's state (R134). -/
def State.notePower (s : State) (i : StationIndex) (p : Power) : State :=
  match (s.station i).state, p with
  | .holding, .doze | .ready, .doze =>
    (s.exitRing i).setStation i { s.station i with state := .dozing, power := .doze, hold := none }
  | .dozing, .awake =>
    (s.setStation i { s.station i with power := .awake }).enterReady i
  | _, _ => s.setStation i { s.station i with power := p }

/-- The effect of a TAKEN NOTE: its rate part (R135) and its power part (R134) as one operation. -/
def State.noteStation (s : State) (i : StationIndex) (power : PowerPart) (rate : BitVec 16) : State :=
  let t := s.setStation i { s.station i with rate := noteRate (s.station i).rate rate }
  match power with
  | .value p => t.notePower i p
  | _ => t

/-- NOTE as the Station Table takes it, with orders 3 to 5 of R133. -/
def noteTaken (r : Radio) (index : BitVec 16) (power : BitVec 2) (rate : BitVec 16) (s : State) :
    State :=
  if powerPartOf power = .invalid then s.refuseMalformed (.radio r) Kind.noteReq
  else match stationOf index with
    | none => s.refuseRadio r Kind.noteReq .noStation
    | some i =>
      if (s.station i).state = .free then s.refuseRadio r Kind.noteReq .noStation
      else if (s.station i).owner ≠ r then s.refuseRadio r Kind.noteReq .notOwner
      else (s.noteStation i (powerPartOf power) rate).answer (.radio r) (.taken Kind.noteReq index)

/-- NOTE (R133 to R135). -/
def execNote (r : Radio) (index : BitVec 16) (power : BitVec 2) (rate : BitVec 16) (s : State) :
    Result :=
  s.onRadio r Kind.noteReq (noteTaken r index power rate s)

end Sys2Proof.Machine
end

