-- ==== Sys2Proof/Machine/Stations.lean ====
section
/-! DEFINITION. The Station Table's requests (chapter 2): ADMIT, DISMISS, TUNE, REMATCH, PIN, UNPIN,
STATION READ, STATION SCAN. -/

namespace Sys2Proof.Machine

/-! ### Selector matching (R67) -/

/-- A group's selector matches an SSID number and a role (R67). -/
def selectorMatches (g : GroupSettings) (ssid : Nat) (role : Byte) : Bool :=
  g.selector && g.ssidSet.getLsbD ssid && g.roleLow ≤ role && role ≤ g.roleHigh

/-- The lowest-numbered group whose selector matches, the claiming group (R67). -/
def State.claimingGroup (s : State) (ssid : Nat) (role : Byte) : Option GroupIndex :=
  (List.finRange 4).find? fun g => selectorMatches (s.group g) ssid role

/-- What selector matching answers: the claiming group if it is open, else the refusal (R29, R68). -/
def State.matchGroup (s : State) (ssid : Nat) (role : Byte) : Except Code GroupIndex :=
  match s.claimingGroup ssid role with
  | none => .error .noGroup
  | some g => if (s.group g).closed then .error .groupClosed else .ok g

/-! ### ADMIT -/

/-- The record an ADMIT fills (R28). -/
def admittedRecord (group : GroupIndex) (ssid : Byte) (owner : Radio) (pinned : Bool) (role : Byte)
    (weight : Byte) (rate : BitVec 16) : Station :=
  { Station.vacant with
    state := .idle, group := group, ssid := ssid.setWidth 4, role := role, owner := owner,
    pinned := pinned, weight := clampWeight weight, rate := admitRate rate }

/-- ADMIT as it is taken, with the checks of R27 in their order. -/
def admitTaken (index : BitVec 16) (ssid : Byte) (owner : BitVec 2) (pinned : Bool) (role : Byte)
    (weight : Byte) (rate : BitVec 16) (s : State) : State :=
  match stationOf index, radioOf owner with
  | some i, some r =>
    if 15 < ssid.toNat then s.replyHeader Kind.admitReq .range
    else if (s.station i).state ≠ .free then s.replyHeader Kind.admitReq .stationBusy
    else match s.matchGroup ssid.toNat role with
      | .error code => s.replyHeader Kind.admitReq code
      | .ok g =>
        (s.setStation i (admittedRecord g ssid r pinned role weight rate)).reply Kind.admitReq
          (writeCode (weightAdjusted weight)) (.stationGroup i g)
  | _, _ => s.replyHeader Kind.admitReq .range

/-- ADMIT (R27, R28). -/
def execAdmit (index : BitVec 16) (ssid : Byte) (owner : BitVec 2) (pinned : Bool) (role : Byte)
    (weight : Byte) (rate : BitVec 16) (s : State) : Result :=
  s.onControl (admitTaken index ssid owner pinned role weight rate s)

/-! ### DISMISS -/

/-- An immediate DISMISS: the station leaves its ring, its queue is retired DISMISSED, and it goes FREE
with its timers stopped (R31). -/
def State.dismissNow (s : State) (i : StationIndex) : State :=
  ((s.exitRing i).retireQueue i .dismissed).freeStation i

/-- A deferred DISMISS: the queue is retired DISMISSED, a pending owner is removed, the dismiss mark is
set (R32). -/
def State.dismissLater (s : State) (i : StationIndex) : State :=
  let t := s.retireQueue i .dismissed
  t.setStation i { t.station i with pendingOwner := none, dismissMark := true }

/-- DISMISS as it is taken, by the station's state (R30). -/
def dismissTaken (index : BitVec 16) (s : State) : State :=
  match stationOf index with
  | none => s.replyHeader Kind.dismissReq .range
  | some i =>
    match (s.station i).state with
    | .free => s.replyHeader Kind.dismissReq .noStation
    | .granted =>
      (if (s.station i).dismissMark then s else s.dismissLater i).replyHeader Kind.dismissReq .deferred
    | _ => (s.dismissNow i).replyHeader Kind.dismissReq .done

/-- DISMISS (R30 to R32). -/
def execDismiss (index : BitVec 16) (s : State) : Result := s.onControl (dismissTaken index s)

/-! ### TUNE -/

/-- TUNE as it is taken: the clamped weight is written and nothing else (R34). -/
def tuneTaken (index : BitVec 16) (weight : Byte) (s : State) : State :=
  s.onStation Kind.tuneReq index fun i =>
    (s.setStation i { s.station i with weight := clampWeight weight }).replyHeader Kind.tuneReq
      (writeCode (weightAdjusted weight))

/-- TUNE (R34). -/
def execTune (index : BitVec 16) (weight : Byte) (s : State) : Result :=
  s.onControl (tuneTaken index weight s)

/-! ### REMATCH -/

/-- A station's group changes. A READY station leaves the old group's ring on its owner radio and joins
the tail of the new group's; any other station has its group field changed alone (R35, R36). -/
def State.changeGroup (s : State) (i : StationIndex) (g : GroupIndex) : State :=
  if (s.station i).state = .ready then
    ((s.exitRing i).setStation i { s.station i with group := g }).joinRing (s.station i).owner g i
  else s.setStation i { s.station i with group := g }

/-- REMATCH as it is taken (R35). -/
def rematchTaken (index : BitVec 16) (s : State) : State :=
  s.onStation Kind.rematchReq index fun i =>
    match s.matchGroup (s.station i).ssid.toNat (s.station i).role with
    | .error code => s.replyHeader Kind.rematchReq code
    | .ok g =>
      (if g = (s.station i).group then s else s.changeGroup i g).reply Kind.rematchReq .done
        (.stationGroup i g)

/-- REMATCH (R35, R36). -/
def execRematch (index : BitVec 16) (s : State) : Result := s.onControl (rematchTaken index s)

/-! ### PIN, UNPIN -/

/-- PIN as it is taken: refused STEERING while a pending owner is present (R37). -/
def pinTaken (index : BitVec 16) (s : State) : State :=
  s.onStation Kind.pinReq index fun i =>
    if (s.station i).pendingOwner.isSome then s.replyHeader Kind.pinReq .steering
    else (s.setStation i { s.station i with pinned := true }).replyHeader Kind.pinReq .done

/-- PIN (R37). -/
def execPin (index : BitVec 16) (s : State) : Result := s.onControl (pinTaken index s)

/-- UNPIN as it is taken (R37). -/
def unpinTaken (index : BitVec 16) (s : State) : State :=
  s.onStation Kind.unpinReq index fun i =>
    (s.setStation i { s.station i with pinned := false }).replyHeader Kind.unpinReq .done

/-- UNPIN (R37). -/
def execUnpin (index : BitVec 16) (s : State) : Result := s.onControl (unpinTaken index s)

/-! ### STATION READ, STATION SCAN -/

/-- The snapshot of a station's record (R38), its remaining times rounded up (R177). -/
def State.snapshot (s : State) (i : StationIndex) : Snapshot where
  index := i
  state := (s.station i).state
  group := (s.station i).group
  ssid := (s.station i).ssid
  role := (s.station i).role
  owner := (s.station i).owner
  pinned := (s.station i).pinned
  power := (s.station i).power
  weight := (s.station i).weight
  rate := (s.station i).rate
  deficit := (s.station i).deficit
  pendingOwner := (s.station i).pendingOwner
  settleMs := (s.station i).settle.map cyclesToMs
  holdUs := (s.station i).hold.map cyclesToUs
  grantTag := (s.station i).grantTag
  dismissMark := (s.station i).dismissMark
  queueLength := (s.station i).queue.length
  airtimeTotal := (s.station i).airtimeTotal
  delivered := (s.station i).delivered
  dropped := (s.station i).dropped

/-- STATION READ as it is taken: any index in range is answered with its snapshot (R38). -/
def stationReadTaken (index : BitVec 16) (s : State) : State :=
  match stationOf index with
  | none => s.replyHeader Kind.stationRead .range
  | some i => s.reply Kind.stationRead .done (.snapshot (s.snapshot i))

/-- STATION READ (R38). -/
def execStationRead (index : BitVec 16) (s : State) : Result :=
  s.onControl (stationReadTaken index s)

/-- The stations that are not FREE, from an index upward, ascending (R39). -/
def State.admittedFrom (s : State) (cursor : StationIndex) : List StationIndex :=
  allStations.filter fun i => cursor ≤ i && (s.station i).state ≠ .free

/-- Where a scan that collected `found` leaves the cursor: the index after the last one collected if it
stopped below 511 with the count met, else none, which is the END mark (R39). -/
def scanStop (found : List StationIndex) (count : Nat) : Option StationIndex :=
  match found.getLast? with
  | none => none
  | some i =>
    if h : i.val + 1 < Config.stationCount then
      if found.length = count then some ⟨i.val + 1, h⟩ else none
    else none

/-- STATION SCAN as it is taken (R39). -/
def stationScanTaken (count : BitVec 4) (restart : Bool) (s : State) : State :=
  if count.toNat = 0 ∨ 8 < count.toNat then s.replyHeader Kind.stationScan .range
  else
    let found := (s.admittedFrom (if restart then 0 else s.scanCursor)).take count.toNat
    let stop := scanStop found count.toNat
    { s with scanCursor := stop.getD 0 }.reply Kind.stationScan .done
      (.scan (found.map s.snapshot) stop.isNone)

/-- STATION SCAN (R39). -/
def execStationScan (count : BitVec 4) (restart : Bool) (s : State) : Result :=
  s.onControl (stationScanTaken count restart s)

end Sys2Proof.Machine
end

