-- ==== Sys2Proof/Machine/Steering.lean ====
section
/-! DEFINITION. Band steering (chapter 8): STEER and the expiry of the settle timer. -/

namespace Sys2Proof.Machine

/-- An immediate move (R144): IDLE and HOLDING stay as they are on the new owner, READY leaves its ring,
and READY and DOZING join the tail of the new owner's ring. -/
def State.moveNow (s : State) (i : StationIndex) (r : Radio) : State :=
  let t := (s.exitRing i).setStation i (s.movedRecord i r)
  match (s.station i).state with
  | .ready | .dozing => t.enterReady i
  | _ => t

/-- Answer a STEER with the station's owner and pending owner as held after the request; every STEER
answer but RANGE carries them (R142, R182). -/
def State.answerSteer (s : State) (i : StationIndex) (code : Code) : State :=
  s.reply Kind.steerReq code (.steered i (s.station i).owner (s.station i).pendingOwner)

/-- STEER as it is taken, the first condition of R142 that holds giving answer and effect. -/
def steerTaken (index : BitVec 16) (target : BitVec 2) (s : State) : State :=
  match stationOf index, radioOf target with
  | some i, some r =>
    if !(s.station i).actionable then s.answerSteer i .noStation
    else if (s.station i).pinned then s.answerSteer i .pinned
    else if (s.station i).owner = r then s.answerSteer i .done
    else if (s.station i).pendingOwner.isSome then s.answerSteer i .steering
    else if (s.station i).settle.isSome then s.answerSteer i .tooSoon
    else if (s.station i).state = .granted then
      (s.setStation i { s.station i with pendingOwner := some r }).answerSteer i .deferred
    else (s.moveNow i r).answerSteer i .done
  | _, _ => s.replyHeader Kind.steerReq .range

/-- STEER (R142 to R146). -/
def execSteer (index : BitVec 16) (target : BitVec 2) (s : State) : Result :=
  s.onControl (steerTaken index target s)

/-- The expiry of a station's settle timer removes its settle window (R150). A stopped timer, or one with
time left, does not expire (log 3). -/
def execSettleTimerExpiry (i : StationIndex) (s : State) : Result :=
  s.onExpiry (if (s.station i).settleDue then s.setStation i { s.station i with settle := none } else s)

end Sys2Proof.Machine
end

