-- ==== Sys2Proof/Machine/Dispatch.lean ====
section
/-! DEFINITION. The meaning of every command: one arm per row of spec/opcode_table.json. -/

namespace Sys2Proof.Machine

def exec (i : Instr) (s : State) : Host.Outcome State Fault Refusal :=
  match i with
  | .admitStation index ssid owner pinned role weight rate => Sys2Proof.Machine.execAdmit index ssid owner pinned role weight rate s
  | .dismiss index => Sys2Proof.Machine.execDismiss index s
  | .tune index weight => Sys2Proof.Machine.execTune index weight s
  | .rematch index => Sys2Proof.Machine.execRematch index s
  | .pin index => Sys2Proof.Machine.execPin index s
  | .unpin index => Sys2Proof.Machine.execUnpin index s
  | .stationRead index => Sys2Proof.Machine.execStationRead index s
  | .stationScan count restart => Sys2Proof.Machine.execStationScan count restart s
  | .queue index entries => Sys2Proof.Machine.execQueue index entries s
  | .purge index => Sys2Proof.Machine.execPurge index s
  | .collect count => Sys2Proof.Machine.execCollect count s
  | .groupSet group block => Sys2Proof.Machine.execGroupSet group block s
  | .groupRead group => Sys2Proof.Machine.execGroupRead group s
  | .profileSave => Sys2Proof.Machine.execProfileSave s
  | .profileRestore => Sys2Proof.Machine.execProfileRestore s
  | .radioSet radio block => Sys2Proof.Machine.execRadioSet radio block s
  | .radioRead radio => Sys2Proof.Machine.execRadioRead radio s
  | .steer index target => Sys2Proof.Machine.execSteer index target s
  | .deviceSet block => Sys2Proof.Machine.execDeviceSet block s
  | .deviceRead => Sys2Proof.Machine.execDeviceRead s
  | .eventRead => Sys2Proof.Machine.execEventRead s
  | .eventClear kinds => Sys2Proof.Machine.execEventClear kinds s
  | .eventForce kinds => Sys2Proof.Machine.execEventForce kinds s
  | .eventMask kinds => Sys2Proof.Machine.execEventMask kinds s
  | .deviceReset => Sys2Proof.Machine.execDeviceReset s
  | .linkStart r => Sys2Proof.Machine.execLinkStart r s
  | .offer r airtime => Sys2Proof.Machine.execOffer r airtime s
  | .report r tag airtime rate outcomes => Sys2Proof.Machine.execReport r tag airtime rate outcomes s
  | .withdraw r tag => Sys2Proof.Machine.execWithdraw r tag s
  | .note r index power rate => Sys2Proof.Machine.execNote r index power rate s
  | .malformedRecord link kind => Sys2Proof.Machine.execMalformedRecord link kind s
  | .recordWithoutHeader link => Sys2Proof.Machine.execRecordWithoutHeader link s
  | .recordWhileNotReady link => Sys2Proof.Machine.execRecordWhileNotReady link s
  | .answerSent link => Sys2Proof.Machine.execAnswerSent link s
  | .holdTimerExpiry station => Sys2Proof.Machine.execHoldTimerExpiry station s
  | .settleTimerExpiry station => Sys2Proof.Machine.execSettleTimerExpiry station s
  | .grantTimeout r tag => Sys2Proof.Machine.execGrantTimeout r tag s
  | .epochTimerExpiry r => Sys2Proof.Machine.execEpochTimerExpiry r s
  | .millisecondClockAdvance => Sys2Proof.Machine.execMillisecondClockAdvance s
  | .linkClockAbsent r => Sys2Proof.Machine.execLinkClockAbsent r s
  | .resetInputLow => Sys2Proof.Machine.execResetInputLow s
  | .resetInputHigh => Sys2Proof.Machine.execResetInputHigh s
  | .freezeInputAsserted => Sys2Proof.Machine.execFreezeInputAsserted s
  | .freezeInputReleased => Sys2Proof.Machine.execFreezeInputReleased s
  | .requestRecordBegins link => Sys2Proof.Machine.execRequestRecordBegins link s
  | .requestClockEdge r => Sys2Proof.Machine.execRequestClockEdge r s

end Sys2Proof.Machine
end

