-- ==== Sys2Proof/Machine/Clock.lean ====
section
/-! DEFINITION. One cycle of the part's clock with no command waiting (log 2): every running timer counts,
and the timers whose last cycle it is expire. -/

namespace Sys2Proof.Machine

/-! ### Counting -/

/-- A remaining time one cycle later. In its last cycle it stays until the expiry is taken, so that a
running timer never holds 0 (R177). -/
def countDown (cycles : Nat) : Nat := if lastCycle cycles then cycles else cycles - 1

/-- A time that grows to a limit, one cycle later. In the last cycle before the limit it stays until its end
is taken. -/
def countUp (limit cycles : Nat) : Nat := if limit ≤ cycles + 1 then cycles else cycles + 1

/-- A station's two timers one cycle later (R128, R149). -/
def Station.tick (st : Station) : Station :=
  { st with hold := st.hold.map countDown, settle := st.settle.map countDown }

/-- A radio's grant timers (R110) and epoch timer (R72) one cycle later. -/
def RadioUnit.tick (u : RadioUnit) : RadioUnit :=
  { u with
    grants := u.grants.map fun g => { g with timer := countDown g.timer }
    epoch := { u.epoch with
      remaining := if u.epoch.running then countDown u.epoch.remaining else u.epoch.remaining } }

/-- A radio's link-clock watch one cycle later; a stopped watch stays stopped (R165). -/
def RadioUnit.tickWatch (u : RadioUnit) : RadioUnit :=
  { u with watch := u.watch.map (countUp (usToCycles Config.watchLimitUs)) }

/-- The station records under a function. -/
def mapStations (f : Station → Station) (v : Vector Station Config.stationCount) :
    Vector Station Config.stationCount :=
  ⟨⟨v.toArray.toList.map f⟩, by simp⟩

/-- Every timer but the watches one cycle later. -/
def State.tickTimers (s : State) : State :=
  { s with
    stations := mapStations Station.tick s.stations
    radioA := s.radioA.tick
    radioB := s.radioB.tick
    msPhase := countUp Config.cyclesPerMs s.msPhase }

/-- Both link-clock watches one cycle later; the freeze does not stop them (R165, R177). -/
def State.tickWatches (s : State) : State :=
  { s with radioA := s.radioA.tickWatch, radioB := s.radioB.tickWatch }

/-- The timers one cycle later. While the part is held in device reset none runs (R168); while the freeze
holds only the link-clock watches do (R177). -/
def State.counted (s : State) : State :=
  if !s.resetInput then s
  else if s.frozen then s.tickWatches
  else s.tickTimers.tickWatches

/-! ### Expiries -/

/-- The expiries of a station whose last cycle this is. -/
def State.dueOfStation (s : State) (i : StationIndex) : List Instr :=
  (if (s.station i).holdDue then [.holdTimerExpiry i] else []) ++
  (if (s.station i).settleDue then [.settleTimerExpiry i] else [])

/-- The expiries of a radio's grant timers and epoch timer whose last cycle this is. -/
def State.dueOfRadio (s : State) (r : Radio) : List Instr :=
  ((s.radio r).grants.filter (·.due)).map (fun g => .grantTimeout r g.tag) ++
  (if (s.radio r).epoch.due then [.epochTimerExpiry r] else [])

/-- The expiries of all timers but the watches, and the end of the millisecond. -/
def State.dueTimers (s : State) : List Instr :=
  allStations.flatMap s.dueOfStation ++ s.dueOfRadio .a ++ s.dueOfRadio .b ++
  (if s.millisecondDue then [.millisecondClockAdvance] else [])

/-- The request clocks that are absent: 100 µs without an edge (R165). -/
def State.dueWatches (s : State) : List Instr :=
  ([.a, .b].filter fun r => (s.radio r).clockAbsent).map .linkClockAbsent

/-- What expires as the cycle ends: nothing in device reset (R168), the watches alone in the freeze
(R177). -/
def State.due (s : State) : List Instr :=
  if !s.resetInput then []
  else if s.frozen then s.dueWatches
  else s.dueTimers ++ s.dueWatches

/-- Expiries of the same cycle in a free order, which R160 leaves open: each but the last is put at a free
place among those behind it (log 4). `n` counts the free choices made. -/
def arrange : Nat → List Instr → List Instr
  | _, [] => []
  | _, [c] => [c]
  | n, c :: cs => (arrange (n + 1) cs).insertIdx (Config.expiryOrder n % (cs.length + 1)) c

/-- Commands taken one after the other. -/
def takeAll : List Instr → State → Result
  | [], s => .next s
  | c :: cs, s =>
    match exec c s with
    | .next t => takeAll cs t
    | .fault f => .fault f
    | .refused w => .refused w

/-- One cycle of the part's clock: the timers count, then those whose last cycle it was expire, each as its
command does. -/
def State.tick (s : State) : Result :=
  takeAll (arrange s.choices s.due)
    { s.counted with choices := s.choices + (s.due.length - 1) }

end Sys2Proof.Machine
end

