-- ==== Sys2Proof/Safety.lean ====
section
/-! DEFINITION. What the spec says holds of the part between operations, as predicates on the state. The
whole of it is `Safety.Coherent`. -/

namespace Sys2Proof.Safety

open Machine

/-! ### Settings (R64, R75, R102, R179) -/

/-- Every setting of a group is in the range of R64. -/
structure GroupInRange (g : GroupSettings) : Prop where
  quantum : 64 ≤ g.quantum ∧ g.quantum ≤ 4096
  cap : g.cap ≤ 1000
  ceiling : 256 ≤ g.ceiling ∧ g.ceiling ≤ 8000
  holdTime : g.holdTime ≤ 4000
  releaseCount : 1 ≤ g.releaseCount ∧ g.releaseCount ≤ 64
  retryLimit : 1 ≤ g.retryLimit ∧ g.retryLimit ≤ 15
  lifetime : g.lifetime ≤ 10000
  queueLimit : 1 ≤ g.queueLimit ∧ g.queueLimit ≤ 2048

/-- Every group of a profile is in range. -/
def ProfileInRange (p : Profile) : Prop := ∀ g : GroupIndex, GroupInRange p[g]

/-- Every setting of a radio is in the range of R102. -/
structure RadioInRange (t : RadioSettings) : Prop where
  epochLength : 10000 ≤ t.epochLength ∧ t.epochLength ≤ 1000000
  ppduOverhead : t.ppduOverhead ≤ 1023
  frameOverhead : t.frameOverhead ≤ 255
  grantTimeout : 1000 ≤ t.grantTimeout ∧ t.grantTimeout ≤ 65535
  defaultRate : 10 ≤ t.defaultRate ∧ t.defaultRate ≤ 24000

/-- Every device setting is in the range of R179. -/
structure DeviceInRange (t : DeviceSettings) : Prop where
  poolReserve : t.poolReserve ≤ 2048
  watermark : 1 ≤ t.watermark ∧ t.watermark ≤ 8192
  settleTime : t.settleTime ≤ 60000

/-- Every setting of the part is in its range, and the profile stack holds at most four profiles (R75). -/
structure SettingsInRange (s : State) : Prop where
  profile : ProfileInRange s.profile
  stack : ∀ p ∈ s.stack, ProfileInRange p
  depth : s.stack.length ≤ Config.stackDepth
  radios : ∀ r, RadioInRange (s.radio r).settings
  device : DeviceInRange s.device

/-- Every usage and borrowed counter is within its bound (R16). -/
def CountersBounded (s : State) : Prop :=
  ∀ r g, s.usage r g ≤ Config.counterMax ∧ s.borrowed r g ≤ Config.counterMax

/-! ### Links and grant tables (R109, R158, R162) -/

/-- A radio's link, watch, epoch timer and grant table agree: the watch and the epoch timer run exactly
while the link is UP, a DOWN link has no grant, at most two grants are outstanding, and their tags
differ. -/
structure LinkAgrees (u : RadioUnit) : Prop where
  watch : u.watch.isSome = u.linkUp
  epoch : u.epoch.running = u.linkUp
  down : u.linkUp = false → u.grants = []
  window : u.grants.length ≤ Config.grantWindow
  tags : (u.grants.map (·.tag)).Nodup
  marks : u.marks = []

/-- The links of both radios agree with their blocks, no port claims more than its four buffers, and
while the part is held in device reset both links are DOWN. -/
structure LinksAgree (s : State) : Prop where
  radios : ∀ r, LinkAgrees (s.radio r)
  buffers : ∀ l, (s.port l).claimed ≤ Config.bufferCount
  held : s.resetInput = false → ∀ r, (s.radio r).linkUp = false

/-! ### The pool (R44, R46) -/

/-- The slots in use do not exceed the pool's 8192 (R44). -/
def PoolBounded (s : State) : Prop :=
  s.queuedCount + s.lentCount + s.retiredCount ≤ Config.slotCount

/-- A release notice: a length of 1 to 8191, and a retry count of 0 to 14, or of 15 with the reason
RETRY_LIMIT (R43, R189). -/
structure NoticeSound (n : Notice) : Prop where
  length : 1 ≤ n.slot.length ∧ n.slot.length ≤ 8191
  retry : n.slot.retry ≤ 14 ∨ (n.slot.retry = 15 ∧ n.reason = .retryLimit)

/-- A QUEUED or LENT slot of a station: its index, a length of 1 to 8191 and a retry count of 0 to 14
(R43). -/
structure SlotOf (i : StationIndex) (f : Slot) : Prop where
  station : f.station = i
  length : 1 ≤ f.length ∧ f.length ≤ 8191
  retry : f.retry ≤ 14

/-- Every slot in a queue or a grant is one of its station's, and every notice is sound. -/
structure SlotsOwned (s : State) : Prop where
  queued : ∀ i, ∀ f ∈ (s.station i).queue, SlotOf i f
  lent : ∀ r, ∀ g ∈ (s.radio r).grants, ∀ f ∈ g.frames, SlotOf g.station f
  released : ∀ n ∈ s.releaseList, NoticeSound n

/-! ### Stations (R19, R21, R22) -/

/-- What R22 fixes of a station's record by its state. -/
def ShapeOfState (st : Station) : Prop :=
  match st.state with
  | .free => st = st.vacated
  | .idle => st.queue = [] ∧ st.hold = none ∧ st.grantTag = none
  | .holding => st.queue ≠ [] ∧ st.power = .awake ∧ st.hold.isSome ∧ st.grantTag = none
  | .ready => st.queue ≠ [] ∧ st.power = .awake ∧ st.hold = none ∧ st.grantTag = none
  | .granted => st.hold = none ∧ st.grantTag.isSome
  | .dozing => st.queue ≠ [] ∧ st.power = .doze ∧ st.hold = none ∧ st.grantTag = none

/-- A station record as the spec allows it: its state's shape (R21, R22), a pending owner or a dismiss
mark only while GRANTED and never both (R22), an empty queue under a dismiss mark (R32), a pending owner
that differs from the owner and excludes the pin and the settle window (R141, R143), and its weight, rate
and deficit in range (R19, R20). -/
structure StationSound (st : Station) : Prop where
  shape : ShapeOfState st
  granted : st.pendingOwner.isSome ∨ st.dismissMark = true → st.state = .granted
  exclusive : ¬ (st.pendingOwner.isSome ∧ st.dismissMark = true)
  marked : st.dismissMark = true → st.queue = []
  pending : st.pendingOwner.isSome →
    st.pendingOwner ≠ some st.owner ∧ st.pinned = false ∧ st.settle = none
  weight : 1 ≤ st.weight ∧ st.weight ≤ 32
  rate : st.rate = 0 ∨ (10 ≤ st.rate ∧ st.rate ≤ 24000)
  deficit : -16383 ≤ st.deficit ∧ st.deficit ≤ 16383

/-- The rings hold exactly the READY stations, each once, in the ring of its owner and group (R22,
R84). -/
structure RingsAgree (s : State) : Prop where
  member : ∀ r g i, i ∈ (s.radio r).ring g ↔
    (s.station i).state = .ready ∧ (s.station i).owner = r ∧ (s.station i).group = g
  once : ∀ r g, ((s.radio r).ring g).Nodup

/-- What holds of an outstanding grant of a radio and its station (R99, R108): the station is GRANTED on
that radio under the grant's tag, there are 1 to 64 frames, the estimate is 1 µs or more and fits the
budget, the budget fits 8000 µs, the rate used is one of 10 to 24000, and the deficit before the charge was 0
or above (R19). -/
structure GrantSound (s : State) (r : Radio) (g : Grant) : Prop where
  granted : (s.station g.station).state = .granted
  owner : (s.station g.station).owner = r
  tag : (s.station g.station).grantTag = some g.tag
  frames : 1 ≤ g.frames.length ∧ g.frames.length ≤ Config.framesPerGrant
  budget : 1 ≤ g.estimate ∧ g.estimate ≤ g.budget ∧ g.budget ≤ Config.offerMax
  rate : 10 ≤ g.rate ∧ g.rate ≤ 24000
  before : 0 ≤ (s.station g.station).deficit + g.estimate ∧
    (s.station g.station).deficit + g.estimate ≤ 16383

/-- Grants and GRANTED stations agree (R108). -/
structure GrantsAgree (s : State) : Prop where
  sound : ∀ r, ∀ g ∈ (s.radio r).grants, GrantSound s r g
  named : ∀ i, (s.station i).state = .granted →
    ∃ g ∈ (s.radio (s.station i).owner).grants, g.station = i

/-! ### Timers (R54, R72, R110, R128, R141, R165, R177) -/

/-- A remaining time in clock cycles of a running timer: at least one cycle, so that it reads at least 1
(R177), and no more than `most`. -/
abbrev Remains (most cycles : Nat) : Prop := 1 ≤ cycles ∧ cycles ≤ most

/-- An epoch timer: while it runs an epoch has started and time remains (R72, R177); the length in force is
one of R102, and at most that length remains; before the first epoch no time does (R74). -/
structure EpochSound (e : EpochTimer) : Prop where
  started : e.running = true → e.inForce.isSome = true ∧ 1 ≤ e.remaining
  inForce : ∀ n, e.inForce = some n → 10000 ≤ n ∧ n ≤ 1000000 ∧ e.remaining ≤ usToCycles n
  fresh : e.inForce = none → e.remaining = 0

/-- Every timer of the part is in its range: hold 4000 µs (R128), settle window 60,000 ms (R141), grant
timeout 65,535 µs (R110), the epoch timers, the running millisecond (R54), and the watches below 100 µs
(R165). -/
structure TimersInRange (s : State) : Prop where
  hold : ∀ i n, (s.station i).hold = some n → Remains (usToCycles 4000) n
  settle : ∀ i n, (s.station i).settle = some n → Remains (msToCycles 60000) n
  grant : ∀ r, ∀ g ∈ (s.radio r).grants, Remains (usToCycles 65535) g.timer
  epoch : ∀ r, EpochSound (s.radio r).epoch
  millisecond : s.msPhase < Config.cyclesPerMs
  watch : ∀ r n, (s.radio r).watch = some n → n < usToCycles Config.watchLimitUs

/-! ### Device reset (R168, R169) -/

/-- While the reset input is low every block holds its reset values (R168). The freeze input's pin and the
model's own fields are not the blocks'. -/
def HeldInReset (s : State) : Prop :=
  s.resetInput = false →
    s = { State.reset with
      resetInput := false, freezeInput := s.freezeInput, choices := s.choices, pending := s.pending }

/-- While the answer to DEVICE RESET is due it is the Control Link's one answer, and no buffer of that link
is claimed (R169). -/
def DoneDue (s : State) : Prop :=
  s.resetAnswerDue = true → s.control = ⟨0, [.control Kind.deviceReset .done .empty]⟩

/-- What holds of the part between operations: the ranges of settings, counters and timers, the agreement of
links, grant tables, rings and stations, the pool and its slots, and the device reset. -/
structure Coherent (s : State) : Prop where
  settings : SettingsInRange s
  counters : CountersBounded s
  links : LinksAgree s
  pool : PoolBounded s
  slots : SlotsOwned s
  stations : ∀ i, StationSound (s.station i)
  rings : RingsAgree s
  grants : GrantsAgree s
  timers : TimersInRange s
  held : HeldInReset s
  doneDue : DoneDue s

end Sys2Proof.Safety
end

