-- ==== Sys2Proof/Certificates/Slice0/Obligations.lean ====
section
/-! DEFINITION. The statements for the provers. `Sys2Proof.Spec` writes the effects of the rules with plain
record updates of the state, apart from the model's own operations. -/

namespace Sys2Proof.Spec

open Machine

/-! ### When a command is taken -/

/-- The Control Link takes requests: the reset input is high and no answer to DEVICE RESET is due. -/
abbrev controlOpen (s : State) : Prop := s.resetInput = true ∧ s.resetAnswerDue = false

/-- A radio link takes requests: the reset input is high and the link is UP. -/
abbrev linkOpen (s : State) (r : Radio) : Prop := s.resetInput = true ∧ (s.radio r).linkUp = true

/-- The freeze holds (R176). -/
abbrev freeze (s : State) : Prop := s.device.freezeMode = .halt ∧ s.freezeInput = true

/-- The timers run: the reset input is high and the freeze does not hold. -/
abbrev timersRun (s : State) : Prop := s.resetInput = true ∧ ¬ freeze s

/-- A station that is admitted and carries no dismiss mark. -/
abbrev admitted (st : Station) : Prop := st.state ≠ .free ∧ st.dismissMark = false

/-! ### Plain writes -/

/-- The state with one station record written. -/
def withStation (s : State) (i : StationIndex) (st : Station) : State :=
  { s with stations := s.stations.set i st }

/-- The state with one radio written. -/
def withRadio (s : State) : Radio → RadioUnit → State
  | .a, u => { s with radioA := u }
  | .b, u => { s with radioB := u }

/-- One answer more on the Control Link. -/
def sends (s : State) (a : Answer) : State :=
  { s with control := ⟨s.control.claimed, s.control.answers ++ [a]⟩ }

/-- One answer more on a radio link. -/
def sendsOn (s : State) (r : Radio) (a : Answer) : State :=
  withRadio s r { s.radio r with
    port := ⟨(s.radio r).port.claimed, (s.radio r).port.answers ++ [a]⟩ }

/-- A Control Link answer without a body. -/
def header (s : State) (kind : Byte) (code : Code) : State := sends s (.control kind code .empty)

/-- One raw event flag set. -/
def raised (s : State) (k : EventKind) : State := { s with raw := s.raw ||| BitVec.twoPow 10 k.bit }

/-- One raw event flag set where a condition holds. -/
def raisedIf (s : State) (c : Prop) [Decidable c] (k : EventKind) : State :=
  if c then raised s k else s

/-- A run of notices at the tail of the release list, with RELEASE_READY if the run takes the list from
below the watermark to it. -/
def retired (s : State) (ns : List Notice) : State :=
  raisedIf { s with releaseList := s.releaseList ++ ns }
    (s.releaseList.length < s.device.watermark ∧
      s.device.watermark ≤ s.releaseList.length + ns.length) .releaseReady

/-- The ring of one group on one radio written. -/
def withRing (s : State) (r : Radio) (g : GroupIndex) (ring : List StationIndex) : State :=
  withRadio s r { s.radio r with rings := (s.radio r).rings.set g ring }

/-- A READY station leaves its ring; a station that is not READY is in none. -/
def leaves (s : State) (i : StationIndex) : State :=
  if (s.station i).state = .ready then
    withRing s (s.station i).owner (s.station i).group
      ((s.radio (s.station i).owner).rings[(s.station i).group].erase i)
  else s

/-- A station joins a ring at the tail. -/
def joins (s : State) (r : Radio) (g : GroupIndex) (i : StationIndex) : State :=
  withRing s r g ((s.radio r).rings[g] ++ [i])

/-! ### Values -/

/-- The nearest bound of a range. -/
def nearest (lo hi n : Nat) : Nat := if n < lo then lo else if hi < n then hi else n

/-- A rate as it is taken: absent leaves `absent`, else the nearest of 10 to 24000 (R3). -/
def rateTaken (absent : Nat) (rate : BitVec 16) : Nat :=
  if rate.toNat = 0 then absent else nearest 10 24000 rate.toNat

/-- DONE, or DONE_ADJUSTED where a value was out of range (R18). -/
def written (inRange : Prop) [Decidable inRange] : Code := if inRange then .done else .doneAdjusted

/-- The vacant record with kept counters (R21). -/
def vacant (st : Station) : Station where
  state := .free
  group := 0
  ssid := 0
  role := 0
  owner := .a
  pendingOwner := none
  settle := none
  pinned := false
  dismissMark := false
  power := .awake
  weight := 8
  rate := 0
  deficit := 0
  queue := []
  hold := none
  grantTag := none
  airtimeTotal := st.airtimeTotal
  delivered := st.delivered
  dropped := st.dropped

/-- A whole queue retired with one reason, head first. -/
def notices (reason : Reason) (queue : List Slot) : List Notice := queue.map fun f => ⟨f, reason⟩

/-! ### Requests not yet taken (R165, R168, R169) -/

/-- The commands that wait on when the untaken requests of a link are discarded: of those ahead of the link's
next record to begin, the ones that are no buffered record of the link; and all behind it. -/
def waiting (l : Link) (cs : List Instr) : List Instr :=
  (cs.takeWhile (· ≠ .requestRecordBegins l)).filter (bufferedOn · ≠ some l) ++
    cs.dropWhile (· ≠ .requestRecordBegins l)

/-- The commands that wait on when the record of a link that begins now is discarded: of those ahead of the
link's next record to begin, the ones that are no buffered record of the link, and the first `held` that are;
and all behind it. -/
def waitingBut (l : Link) (held : Nat) (cs : List Instr) : List Instr :=
  let begun := cs.takeWhile (· ≠ .requestRecordBegins l)
  (begun.zipIdx.filter fun x =>
      bufferedOn x.1 ≠ some l ∨ (begun.take x.2).countP (bufferedOn · = some l) < held).map (·.1) ++
    cs.dropWhile (· ≠ .requestRecordBegins l)

/-- The commands that wait on through a device reset. -/
def waitingReset (cs : List Instr) : List Instr :=
  waiting .control (waiting (.radio .a) (waiting (.radio .b) cs))

/-! ### The part's clock (R72, R110, R128, R149, R165, R177) -/

/-- A remaining time after a cycle: one less, but for the last cycle, which ends with the expiry. -/
def less (n : Nat) : Nat := if n ≤ 1 then n else n - 1

/-- The state with the time of both link-clock watches one cycle on. -/
def watched (s : State) : State :=
  { s with
    radioA := { s.radioA with watch := s.radioA.watch.map fun n => if 19999 ≤ n then n else n + 1 }
    radioB := { s.radioB with watch := s.radioB.watch.map fun n => if 19999 ≤ n then n else n + 1 } }

/-- A radio with its grant timers and its epoch timer one cycle on. -/
def timed (u : RadioUnit) : RadioUnit :=
  { u with
    grants := u.grants.map fun g => { g with timer := less g.timer }
    epoch := { u.epoch with
      remaining := if u.epoch.running then less u.epoch.remaining else u.epoch.remaining } }

/-- The state with every timer one cycle on. -/
def clocked (s : State) : State :=
  watched { s with
    stations := s.stations.map fun st =>
      { st with hold := st.hold.map less, settle := st.settle.map less }
    radioA := timed s.radioA
    radioB := timed s.radioB
    msPhase := if 199999 ≤ s.msPhase then s.msPhase else s.msPhase + 1 }

/-- The expiries of the timers that are in their last cycle, the watches apart. -/
def expiring (s : State) : List Instr :=
  ((List.finRange 512).filter fun i : StationIndex =>
    (s.station i).state = .holding ∧ ((s.station i).hold = some 0 ∨ (s.station i).hold = some 1)).map
      .holdTimerExpiry ++
  ((List.finRange 512).filter fun i : StationIndex =>
    (s.station i).settle = some 0 ∨ (s.station i).settle = some 1).map .settleTimerExpiry ++
  [Radio.a, Radio.b].flatMap (fun r =>
    ((s.radio r).grants.filter fun g => g.timer ≤ 1).map fun g => .grantTimeout r g.tag) ++
  ([Radio.a, Radio.b].filter fun r =>
    (s.radio r).epoch.running = true ∧ (s.radio r).epoch.remaining ≤ 1).map .epochTimerExpiry ++
  (if 199999 ≤ s.msPhase then [.millisecondClockAdvance] else [])

/-- The UP links whose request clock has shown no edge for 100 µs at the end of this cycle. -/
def absent (s : State) : List Instr :=
  ([Radio.a, Radio.b].filter fun r =>
    (s.radio r).linkUp = true ∧ 19999 ≤ (s.radio r).watch.getD 0).map .linkClockAbsent

/-- Commands taken one after the other. -/
def taken : List Instr → State → Result
  | [], s => .next s
  | c :: cs, s =>
    match exec c s with
    | .next t => taken cs t
    | o => o

/-! ### Selectors (R67) -/

/-- A group's selector matches an SSID number and a role. -/
abbrev selects (g : GroupSettings) (ssid : Nat) (role : Byte) : Prop :=
  g.selector = true ∧ g.ssidSet.getLsbD ssid = true ∧ g.roleLow.toNat ≤ role.toNat ∧
    role.toNat ≤ g.roleHigh.toNat

/-- A group is the lowest-numbered one whose selector matches. -/
abbrev claims (s : State) (g : GroupIndex) (ssid : Nat) (role : Byte) : Prop :=
  selects s.profile[g] ssid role ∧ ∀ h : GroupIndex, h < g → ¬ selects s.profile[h] ssid role

/-! ### The pool (R49 to R51) -/

/-- The outcome of one QUEUE entry: the first check that holds. -/
def outcome (s : State) (i : StationIndex) (e : QueueEntry) : Code :=
  if (s.station i).state = .free ∨ (s.station i).dismissMark = true then .noStation
  else if e.length.toNat = 0 ∨ 8191 < e.length.toNat then .badLength
  else if s.profile[(s.station i).group].queueLimit ≤ (s.station i).queue.length then .queueLimit
  else if s.freeCount = 0 then .poolFull
  else if s.freeCount < s.device.poolReserve ∧ 0 < s.backloggedCount ∧
      s.queuedCount / s.backloggedCount < (s.station i).queue.length then .poolPressure
  else .done

/-- The state after one QUEUE entry: an ACCEPTED one stands at the tail, stamped with the millisecond
clock, and may report POOL_LOW; a refused one leaves no trace. -/
def enqueue (s : State) (i : StationIndex) (e : QueueEntry) : State :=
  if outcome s i e = .done then
    raisedIf (withStation s i { s.station i with
        queue := (s.station i).queue ++ [⟨e.handle, e.length.toNat, i, s.msClock, 0⟩] })
      (s.device.poolReserve ≤ s.freeCount ∧ s.freeCount - 1 < s.device.poolReserve) .poolLow
  else s

/-- The entries of a QUEUE in list order, each against the state the entries before it leave. -/
def entries (i : StationIndex) : State → List QueueEntry → State × List Code
  | s, [] => (s, [])
  | s, e :: es =>
    let rest := entries i (enqueue s i e) es
    (rest.1, outcome s i e :: rest.2)

/-- The transition a QUEUE that accepts a descriptor makes (R24, R129, R130). -/
def afterQueue (s : State) (i : StationIndex) : State :=
  let st := s.station i
  let set := s.profile[st.group]
  match st.state with
  | .idle =>
    if st.power = .doze then withStation s i { st with state := .dozing }
    else if set.holdTime = 0 ∨ set.releaseCount ≤ st.queue.length then
      joins (withStation s i { st with state := .ready, hold := none }) st.owner st.group i
    else withStation s i { st with state := .holding, hold := some (set.holdTime * 200) }
  | .holding =>
    if set.releaseCount ≤ st.queue.length then
      joins (withStation s i { st with state := .ready, hold := none }) st.owner st.group i
    else s
  | .free | .ready | .granted | .dozing => s

/-! ### Charges (R13, R15, R16, R70) -/

/-- A group counter increased, no further than 16,777,215; usage that comes from below its cap to it
reports CAP_REACHED. -/
def increased (s : State) (r : Radio) (g : GroupIndex) (pass : PassKind) (n : Nat) : State :=
  match pass with
  | .cap =>
    raisedIf (withRadio s r { s.radio r with
        usage := (s.radio r).usage.set g (min ((s.radio r).usage[g] + n) 16777215) })
      ((s.radio r).usage[g] < s.capOf r g ∧
        s.capOf r g ≤ min ((s.radio r).usage[g] + n) 16777215) .capReached
  | .borrow =>
    withRadio s r { s.radio r with
      borrowed := (s.radio r).borrowed.set g (min ((s.radio r).borrowed[g] + n) 16777215) }

/-- A group counter decreased, no further than 0. -/
def decreased (s : State) (r : Radio) (g : GroupIndex) (pass : PassKind) (n : Nat) : State :=
  match pass with
  | .cap => withRadio s r { s.radio r with
      usage := (s.radio r).usage.set g ((s.radio r).usage[g] - n) }
  | .borrow => withRadio s r { s.radio r with
      borrowed := (s.radio r).borrowed.set g ((s.radio r).borrowed[g] - n) }

/-! ### The end of a grant (R25, R111) -/

/-- The hand-over of a station whose grant has ended (R25). -/
def handedOver (s : State) (i : StationIndex) : State :=
  let st := s.station i
  if st.dismissMark = true then raised (withStation s i (vacant st)) .stationFreed
  else
    let window :=
      if s.device.settleTime = 0 then none else some (s.device.settleTime * 200000)
    let moved : Station :=
      match st.pendingOwner with
      | none => { st with grantTag := none }
      | some r =>
        { st with
          grantTag := none, owner := r, pendingOwner := none, power := .awake, rate := 0,
          settle := window }
    let t := raisedIf s (st.pendingOwner.isSome = true) .steerDone
    if st.queue = [] then withStation t i { moved with state := .idle }
    else if moved.power = .doze then withStation t i { moved with state := .dozing }
    else joins (withStation t i { moved with state := .ready, hold := none }) moved.owner moved.group i

/-- The record of a grant freed. -/
def freed (s : State) (r : Radio) (tag : Byte) : State :=
  withRadio s r { s.radio r with grants := (s.radio r).grants.eraseP fun g => g.tag = tag }

/-- Every frame returned to the queue's head in grant order, or retired DISMISSED under a mark. -/
def unsent (s : State) (g : Grant) : State :=
  if (s.station g.station).dismissMark = true then retired s (notices .dismissed g.frames)
  else withStation s g.station { s.station g.station with
    queue := g.frames ++ (s.station g.station).queue }

/-- A grant ended as withdrawn (R120): frames, refund, hand-over, record. -/
def withdrawn (s : State) (r : Radio) (g : Grant) : State :=
  let t := unsent s g
  let t := withStation t g.station { t.station g.station with
    deficit := (t.station g.station).deficit + g.estimate }
  freed (handedOver (decreased t r g.group g.pass g.estimate) g.station) r g.tag

/-- A grant ended by timeout (R121): frames, no correction, airtime total, hand-over, record, count,
event. -/
def timedOut (s : State) (r : Radio) (g : Grant) : State :=
  let t := unsent s g
  let t := withStation t g.station { t.station g.station with
    airtimeTotal := (t.station g.station).airtimeTotal + BitVec.ofNat 32 g.estimate }
  let t := freed (handedOver t g.station) r g.tag
  raised (withRadio t r { t.radio r with
      counters := { (t.radio r).counters with timeouts := (t.radio r).counters.timeouts + 1 } })
    (match r with
      | .a => .timeoutA
      | .b => .timeoutB)

/-- What the outcomes of a REPORT make of the frames, in grant order (R114, R115): the notices, the slots
that return, the DELIVERED outcomes and the frames retired RETRY_LIMIT. -/
def settled (limit : Nat) (mark : Bool) :
    List (Slot × FrameOutcome) → List Notice × List Slot × Nat × Nat
  | [] => ([], [], 0, 0)
  | (f, o) :: rest =>
    let (ns, back, del, lim) := settled limit mark rest
    let survive (f : Slot) := if mark then (⟨f, .dismissed⟩ :: ns, back, del, lim) else (ns, f :: back, del, lim)
    match o with
    | .delivered => (⟨f, .delivered⟩ :: ns, back, del + 1, lim)
    | .failed =>
      if limit ≤ f.retry + 1 then
        (⟨{ f with retry := f.retry + 1 }, .retryLimit⟩ :: ns, back, del, lim + 1)
      else survive { f with retry := f.retry + 1 }
    | .unsent => survive f

/-- The outcome field of an outcome (R187). -/
def outcomeField : FrameOutcome → BitVec 2
  | .delivered => 1
  | .failed => 2
  | .unsent => 3

/-- A grant ended by REPORT (R111, R114 to R118). -/
def reported (s : State) (r : Radio) (g : Grant) (airtime rate : BitVec 16)
    (outcomes : List FrameOutcome) : State :=
  let i := g.station
  let st := s.station i
  let actual := min airtime.toNat 16383
  let (ns, back, del, lim) :=
    settled s.profile[g.group].retryLimit st.dismissMark (g.frames.zip outcomes)
  let t := retired (withStation s i { st with queue := back ++ st.queue }) ns
  let t := if g.estimate ≤ actual then increased t r g.group g.pass (actual - g.estimate)
    else decreased t r g.group g.pass (g.estimate - actual)
  let t := withStation t i { t.station i with
    deficit := st.deficit + ((g.estimate : Int) - (actual : Int))
    airtimeTotal := st.airtimeTotal + BitVec.ofNat 32 actual
    delivered := st.delivered + BitVec.ofNat 32 del
    dropped := st.dropped + BitVec.ofNat 32 lim
    rate := rateTaken st.rate rate
    settle := if st.owner = r ∧ 0 < actual then none else st.settle }
  freed (handedOver t i) r g.tag

/-! ### Links (R164, R166) -/

/-- The radio-link reset from step 2 on. -/
def linkReset (s : State) (r : Radio) : State :=
  let t := (s.radio r).grants.foldl (fun t g => withdrawn t r g) s
  raised (withRadio t r { t.radio r with
      epoch := { (t.radio r).epoch with running := false }, watch := none, linkUp := false })
    (match r with
      | .a => .linkLostA
      | .b => .linkLostB)

/-- The four steps of LINK START. -/
def linkStarted (s : State) (r : Radio) : State :=
  withRadio s r { s.radio r with
    nextTag := 0
    epoch := ⟨true, (s.radio r).settings.epochLength * 200, some (s.radio r).settings.epochLength⟩
    usage := #v[0, 0, 0, 0]
    borrowed := #v[0, 0, 0, 0]
    watch := some 0
    linkUp := true }

/-! ### Visits (R55, R56, R91 to R94) -/

/-- The rate in use for a station on a radio (R2). -/
def rateUsed (s : State) (r : Radio) (i : StationIndex) : Nat :=
  if (s.station i).rate = 0 then (s.radio r).settings.defaultRate else (s.station i).rate

/-- The time of a slot's frame at the rate in use, in sixteenths (R4). -/
def time (s : State) (r : Radio) (i : StationIndex) (f : Slot) : Nat :=
  divUp ((f.length + (s.radio r).settings.frameOverhead) * 1280) (rateUsed s r i)

/-- The estimate of frames whose times sum to `sum` (R5). -/
def estimated (s : State) (r : Radio) (sum : Nat) : Nat :=
  (s.radio r).settings.ppduOverhead + divUp sum 16

/-- The single-frame estimate of a slot for a station on a radio (R5). -/
def single (s : State) (r : Radio) (i : StationIndex) (f : Slot) : Nat :=
  estimated s r (time s r i f)

/-- Why a slot met at a visit is dropped: the expiry test first, then the oversize test (R56). -/
def drop (s : State) (r : Radio) (i : StationIndex) (f : Slot) : Option Reason :=
  let set := s.profile[(s.station i).group]
  if set.lifetime ≠ 0 ∧ set.lifetime ≤ (s.msClock - f.stamp).toNat then some .expired
  else if set.ceiling < single s r i f then some .oversize
  else none

/-- Head drops: `pre` retired and counted, `kept` stays queued. -/
def dropped (s : State) (i : StationIndex) (pre : List Notice) (kept : List Slot) : State :=
  retired (withStation s i { s.station i with
    queue := kept, dropped := (s.station i).dropped + BitVec.ofNat 32 pre.length }) pre

/-- The total of the grants formed count and the six PASS counts (R106). -/
def offersServed (c : RadioCounters) : BitVec 32 :=
  c.grantsFormed + c.passFrozen + c.passWindowFull + c.passNoBacklog + c.passCapped + c.passTooShort +
    c.passSearchLimit

/-- A PASS: its reason counted once, the marks cleared, and the answer sent. -/
def passed (s : State) (r : Radio) (reason : PassReason) : State :=
  let c := (s.radio r).counters
  sendsOn (withRadio s r { s.radio r with
    counters :=
      match reason with
      | .frozen => { c with passFrozen := c.passFrozen + 1 }
      | .windowFull => { c with passWindowFull := c.passWindowFull + 1 }
      | .noBacklog => { c with passNoBacklog := c.passNoBacklog + 1 }
      | .capped => { c with passCapped := c.passCapped + 1 }
      | .tooShort => { c with passTooShort := c.passTooShort + 1 }
      | .searchLimit => { c with passSearchLimit := c.passSearchLimit + 1 } }) r (.pass reason)

/-- The kind of a radio link request that needs an UP link, with the radio it arrives on. -/
def upKind : Instr → Option (Radio × Byte)
  | .offer r _ => some (r, 0x41)
  | .report r _ _ _ _ => some (r, 0x42)
  | .withdraw r _ => some (r, 0x43)
  | .note r _ _ _ => some (r, 0x44)
  | _ => none

/-- The expiries of the part's timers that the freeze and the reset input stop. -/
def stoppable : Instr → Bool
  | .holdTimerExpiry _ | .settleTimerExpiry _ | .grantTimeout _ _ | .epochTimerExpiry _
  | .millisecondClockAdvance => true
  | _ => false

/-- The commands of one radio's link, its grants, its epoch and its clock. -/
def ofRadio (r : Radio) : Instr → Bool
  | .linkStart q | .offer q _ | .report q _ _ _ _ | .withdraw q _ | .note q _ _ _ | .grantTimeout q _
  | .epochTimerExpiry q | .linkClockAbsent q | .requestClockEdge q => q = r
  | _ => false

/-- The named bits of the body word `k` (0 for W1) of a request of a kind, where the first body word counts
`n` outcomes (R184 to R186). -/
def named (l : Link) (kind n k : Nat) : Word :=
  match l, kind, k with
  | .control, 0x01, 0 => 0x07FFFFFF
  | .control, 0x02, 0 | .control, 0x04, 0 | .control, 0x06, 0 | .control, 0x07, 0
  | .control, 0x09, 0 | .control, 0x0A, 0 => 0x0000FFFF
  | .control, 0x03, 0 | .control, 0x08, 0 => 0x00FFFFFF
  | .control, 0x03, k + 1 => if k % 2 = 0 then 0xFFFFFFFF else 0x0000FFFF
  | .control, 0x05, 0 => 0x0003FFFF
  | .control, 0x0B, 0 => 0x0000010F
  | .control, 0x0C, 0 | .control, 0x0D, 0 | .control, 0x14, 0 => 0x000000FF
  | .control, 0x0C, 2 => 0x00FF0F07
  | .control, 0x10, 0 | .control, 0x11, 0 => 0x00000003
  | .control, 0x10, 2 => 0x00FFFFFF
  | .control, 0x12, 1 => 0x0003FFFF
  | .control, 0x16, 0 | .control, 0x17, 0 | .control, 0x18, 0 => 0x000003FF
  | .radio _, 0x41, 0 | .radio _, 0x44, 1 => 0x0000FFFF
  | .radio _, 0x42, 0 => 0x007F00FF
  | .radio _, 0x42, k + 2 => BitVec.ofNat 32 (2 ^ (2 * min 16 (n - 16 * k)) - 1)
  | .radio _, 0x43, 0 => 0x000000FF
  | .radio _, 0x44, 0 => 0x0003FFFF
  | _, _, _ => 0xFFFFFFFF

/-- The words a request kind of fixed length takes, header included (R184, R185). -/
def fixedWords : Link → Nat → Option Nat
  | .control, 0x01 => some 3
  | .control, 0x02 | .control, 0x04 | .control, 0x05 | .control, 0x06 | .control, 0x07
  | .control, 0x08 | .control, 0x09 | .control, 0x0A | .control, 0x0B | .control, 0x0D
  | .control, 0x11 | .control, 0x14 | .control, 0x16 | .control, 0x17 | .control, 0x18 => some 2
  | .control, 0x0C => some 7
  | .control, 0x0E | .control, 0x0F | .control, 0x13 | .control, 0x15 | .control, 0x19 => some 1
  | .control, 0x10 => some 5
  | .control, 0x12 => some 3
  | .radio _, 0x40 => some 1
  | .radio _, 0x41 | .radio _, 0x43 => some 2
  | .radio _, 0x44 => some 3
  | _, _ => none

/-! ### Answer records (R182 to R190) -/

/-- A word from its named fields, each with its lowest bit, its width and its value; every other bit is 0. -/
def word (fields : List (Nat × Nat × Nat)) : Word :=
  fields.foldr (fun f w => ((BitVec.ofNat f.2.1 f.2.2).setWidth 32 <<< f.1) ||| w) 0

/-- 1 for yes, on or present. -/
def one (b : Bool) : Nat := if b then 1 else 0

/-- 1 for A, 2 for B. -/
def radioNo : Radio → Nat
  | .a => 1
  | .b => 2

/-- A pending owner, 0 where it is absent. -/
def pendingNo : Option Radio → Nat
  | none => 0
  | some r => radioNo r

/-- The state codes of R188. -/
def stateNo : StationState → Nat
  | .free => 0
  | .idle => 1
  | .holding => 2
  | .ready => 3
  | .granted => 4
  | .dozing => 5

/-- The notice reasons of R188. -/
def reasonNo : Reason → Nat
  | .delivered => 1
  | .retryLimit => 2
  | .expired => 3
  | .oversize => 4
  | .purged => 5
  | .dismissed => 6

/-- The code table of R182. -/
def codeNo : Code → Nat
  | .done => 0x00
  | .doneAdjusted => 0x01
  | .deferred => 0x02
  | .range => 0x10
  | .badLength => 0x11
  | .noStation => 0x12
  | .stationBusy => 0x13
  | .noGroup => 0x14
  | .groupClosed => 0x15
  | .queueLimit => 0x16
  | .poolFull => 0x17
  | .poolPressure => 0x18
  | .pinned => 0x19
  | .tooSoon => 0x1A
  | .steering => 0x1B
  | .stackFull => 0x1C
  | .stackEmpty => 0x1D
  | .malformed => 0x1F
  | .linkDown => 0x20
  | .stale => 0x21
  | .mismatch => 0x22
  | .notOwner => 0x23

/-- The PASS reasons of R182. -/
def passNo : PassReason → Nat
  | .frozen => 1
  | .windowFull => 2
  | .noBacklog => 3
  | .capped => 4
  | .tooShort => 5
  | .searchLimit => 6

/-- The station snapshot of R188, with the optional fields of R189. -/
def snapshot (t : Snapshot) : List Word :=
  [ word [(0, 16, t.index), (16, 3, stateNo t.state), (20, 2, t.group), (22, 2, radioNo t.owner),
      (24, 2, pendingNo t.pendingOwner), (26, 1, one t.pinned), (27, 1, one (t.power = .doze)),
      (28, 1, one t.dismissMark)],
    word [(0, 4, t.ssid.toNat), (4, 1, one t.grantTag.isSome), (5, 1, one t.holdUs.isSome),
      (6, 1, one t.settleMs.isSome), (8, 8, t.role.toNat), (16, 6, t.weight),
      (24, 8, match t.grantTag with
        | some tag => tag.toNat
        | none => 0)],
    word [(0, 16, t.rate), (16, 16, (t.deficit % 65536).toNat)],
    word [(0, 16, t.queueLength), (16, 16, t.holdUs.getD 0)],
    word [(0, 16, t.settleMs.getD 0)],
    t.airtimeTotal, t.delivered, t.dropped ]

/-- The release notice of R188. -/
def notice (n : Notice) : List Word :=
  [ n.slot.handle,
    word [(0, 16, n.slot.station), (16, 3, reasonNo n.reason), (20, 4, n.slot.retry)] ]

/-- The group settings block of R186. -/
def groupBlock (g : GroupSettings) : List Word :=
  [ word [(0, 16, g.ssidSet.toNat), (16, 8, g.roleLow.toNat), (24, 8, g.roleHigh.toNat)],
    word [(0, 1, one g.selector), (1, 1, one g.closed), (2, 1, one g.borrow), (8, 4, g.retryLimit),
      (16, 8, g.releaseCount)],
    word [(0, 16, g.quantum), (16, 16, g.ceiling)],
    word [(0, 16, g.holdTime), (16, 16, g.cap)],
    word [(0, 16, g.lifetime), (16, 16, g.queueLimit)] ]

/-- The radio settings block of R186. -/
def radioBlock (t : RadioSettings) : List Word :=
  [ word [(0, 32, t.epochLength)],
    word [(0, 16, t.ppduOverhead), (16, 8, t.frameOverhead)],
    word [(0, 16, t.grantTimeout), (16, 16, t.defaultRate)] ]

/-- The device settings block of R186. -/
def deviceBlock (t : DeviceSettings) : List Word :=
  [ word [(0, 16, t.poolReserve), (16, 16, t.watermark)],
    word [(0, 16, t.settleTime), (16, 2, match t.freezeMode with
      | .run => 1
      | .halt => 2)] ]

/-- Outcome bytes, four to a word, the first in bits 7–0; bytes beyond the last are 0 (R184, R189). -/
def outcomeWords : List Nat → List Word
  | a :: b :: c :: d :: rest => word [(0, 8, a), (8, 8, b), (16, 8, c), (24, 8, d)] :: outcomeWords rest
  | [a, b, c] => [word [(0, 8, a), (8, 8, b), (16, 8, c)]]
  | [a, b] => [word [(0, 8, a), (8, 8, b)]]
  | [a] => [word [(0, 8, a)]]
  | [] => []

/-- W31 and W32 of a RADIO READ answer: an outstanding grant, or 0 for an unused word. -/
def grantWord : Option (Byte × StationIndex) → Word
  | some (tag, i) => word [(0, 8, tag.toNat), (16, 16, i)]
  | none => 0

/-- The RADIO READ answer of R184. -/
def radioRead (f : RadioFigures) : List Word :=
  [word [(0, 2, radioNo f.radio), (4, 1, one f.linkUp), (5, 1, one f.epochRunning),
    (8, 8, f.nextTag.toNat), (16, 2, f.grants.length)]] ++ radioBlock f.settings ++
  [word [(0, 32, f.epochRemainingUs)], word [(0, 32, f.epochInForce)]] ++
  f.groups.flatMap (fun g => [word [(0, 32, g.usage)], word [(0, 32, g.cap)],
    word [(0, 32, g.borrowed)], word [(0, 32, g.ringLength)]]) ++
  [ f.counters.grantsFormed, f.counters.passFrozen, f.counters.passWindowFull,
    f.counters.passNoBacklog, f.counters.passCapped, f.counters.passTooShort,
    f.counters.passSearchLimit, f.counters.timeouts, grantWord f.grants[0]?, grantWord f.grants[1]? ]

/-- The body of a Control Link answer, by the tables of R184. -/
def controlBody : Body → List Word
  | .empty => []
  | .stationGroup i g => [word [(0, 16, i), (16, 2, g)]]
  | .queueOutcomes i n outcomes =>
    word [(0, 16, i), (16, 16, n)] :: outcomeWords (outcomes.map codeNo)
  | .purged n => [word [(0, 16, n)]]
  | .steered i owner pending => [word [(0, 16, i), (16, 2, radioNo owner), (18, 2, pendingNo pending)]]
  | .snapshot t => snapshot t
  | .scan ts atEnd => word [(0, 4, ts.length), (8, 1, one atEnd)] :: ts.flatMap snapshot
  | .groupSettings g depth settings => word [(0, 2, g), (8, 3, depth)] :: groupBlock settings
  | .stackDepth depth => [word [(0, 32, depth)]]
  | .radioSettings r settings => word [(0, 2, radioNo r)] :: radioBlock settings
  | .radioFigures f => radioRead f
  | .deviceSettings settings => deviceBlock settings
  | .deviceFigures f =>
    deviceBlock f.settings ++
    [ word [(0, 16, f.free), (16, 16, f.queued)],
      word [(0, 16, f.lent), (16, 16, f.retired)],
      word [(0, 16, f.backlogged), (16, 3, f.depth), (20, 1, one f.linkAUp), (21, 1, one f.linkBUp),
        (22, 1, one f.freezeInput), (23, 1, one f.frozen)],
      f.clock ]
  | .notices ns left => word [(0, 8, ns.length), (16, 16, left)] :: ns.flatMap notice
  | .eventSets raw enabled masked =>
    [word [(0, 10, raw.toNat), (10, 10, enabled.toNat), (20, 10, masked.toNat)]]

/-- A record: the header with its kind, the count of all its words, and its code, then the body (R182). -/
def record (kind code : Nat) (body : List Word) : List Word :=
  word [(24, 8, kind), (16, 8, body.length + 1), (8, 8, code)] :: body

/-- The record of every answer (R182, R184, R185). -/
def answerRecord : Answer → List Word
  | .control kind code body => record (kind.toNat + 0x80) (codeNo code) (controlBody body)
  | .linkReady r => record 0xC0 0 [word [(0, 2, radioNo r)]]
  | .grant g =>
    record 0xC1 0
      ([ word [(0, 8, g.tag.toNat), (8, 1, one (g.pass = .borrow)), (16, 7, g.frames.length)],
         word [(0, 16, g.station), (16, 16, g.rate)],
         word [(0, 16, g.estimate), (16, 16, g.budget)] ] ++
       g.frames.flatMap fun f => [f.handle, word [(0, 16, f.length)]])
  | .pass reason => record 0xC2 (passNo reason) []
  | .taken kind name => record 0xC3 0 [word [(0, 16, name.toNat), (24, 8, kind.toNat)]]
  | .refused kind code => record 0xC4 (codeNo code) [word [(24, 8, kind.toNat)]]

end Sys2Proof.Spec

open Sys2Proof Sys2Proof.Machine

/-! ### Steps and time -/

/-- A step takes the command at the front of the queue and runs it with the queue's rest. -/
def Obligations.StepTakesFrontCommand : Prop :=
  ∀ (c : Instr) (rest : List Instr) (s : State), s.pending = c :: rest →
    step s = exec c { s with pending := rest }

/-- On an empty queue, while the timers run, a step is one cycle of the part's clock: every running timer
counts once, those in their last cycle expire in some order, each as its command does, and nothing else
changes. That the idle step is a cycle is the model's choice (log 2), and the order of the expiries is a free
value (log 4). -/
def Obligations.IdleStepCountsTimers : Prop :=
  ∀ s : State, s.pending = [] → Spec.timersRun s →
    ∃ (order : List Instr) (choices : Nat) (t : State),
      order.Perm (Spec.expiring s ++ Spec.absent s) ∧ step s = .next t ∧
      Spec.taken order { Spec.clocked s with choices := choices } = .next t

/-- While the freeze holds only the link-clock watches count and only they expire; while the reset input is
low nothing does; and no expiry of a stopped timer has an effect. That the idle step is a cycle is the
model's choice (log 2), and so is an expiry command without an expiry (log 3, log 5). -/
def Obligations.TimersHeldInFreezeAndReset : Prop :=
  (∀ s : State, s.pending = [] → s.resetInput = false → step s = .next s) ∧
  (∀ s : State, s.pending = [] → s.resetInput = true → Spec.freeze s →
    ∃ (order : List Instr) (choices : Nat) (t : State),
      order.Perm (Spec.absent s) ∧ step s = .next t ∧
      Spec.taken order { Spec.watched s with choices := choices } = .next t) ∧
  (∀ (c : Instr) (s : State), Spec.stoppable c = true → ¬ Spec.timersRun s → exec c s = .next s)

/-- What a device reset leaves: the values the spec gives. -/
def Obligations.ResetLeavesSpecValues : Prop :=
  (∀ i, State.reset.station i = Spec.vacant Station.vacant ∧
    Station.vacant.airtimeTotal = 0 ∧ Station.vacant.delivered = 0 ∧ Station.vacant.dropped = 0) ∧
  State.reset.scanCursor = 0 ∧ State.reset.releaseList = [] ∧ State.reset.msClock = 0 ∧
  State.reset.freeCount = 8192 ∧ State.reset.queuedCount = 0 ∧ State.reset.lentCount = 0 ∧
  State.reset.retiredCount = 0 ∧ State.reset.backloggedCount = 0 ∧
  (∀ g : GroupIndex, State.reset.profile[g] =
    { selector := g = 3, ssidSet := 0xFFFF, roleLow := 0, roleHigh := 255, closed := false,
      quantum := 1024, cap := 1000, borrow := true, ceiling := 4000, holdTime := 500,
      releaseCount := 16, retryLimit := 7, lifetime := 0, queueLimit := 256 }) ∧
  State.reset.stack = [] ∧
  (∀ r, State.reset.radio r =
    { settings := ⟨100000, 60, 40, 20000, 60⟩, rings := #v[[], [], [], []], marks := [], nextTag := 0,
      counters := ⟨0, 0, 0, 0, 0, 0, 0, 0⟩, grants := [], usage := #v[0, 0, 0, 0],
      borrowed := #v[0, 0, 0, 0], epoch := ⟨false, 0, none⟩, linkUp := false, watch := none,
      port := ⟨0, []⟩ }) ∧
  State.reset.device = ⟨512, 64, 2000, .run⟩ ∧ State.reset.raw = 0 ∧ State.reset.enabled = 0 ∧
  State.reset.control = ⟨0, []⟩ ∧ State.reset.eventLine = false ∧
  (∀ l, State.reset.ready l = true)

/-! ### Airtime -/

/-- A frame's time is the quotient (L + P) × 1280 / rate rounded up, and lies in 1 to 1,081,088
sixteenths. -/
def Obligations.FrameTimeIsCeiling : Prop :=
  ∀ (settings : RadioSettings) (rate length : Nat), 1 ≤ length → length ≤ 8191 →
    settings.frameOverhead ≤ 255 → 10 ≤ rate → rate ≤ 24000 →
    (length + settings.frameOverhead) * 1280 ≤ frameTime settings rate length * rate ∧
    (frameTime settings rate length - 1) * rate < (length + settings.frameOverhead) * 1280 ∧
    1 ≤ frameTime settings rate length ∧ frameTime settings rate length ≤ 1081088

/-- The budgets of the two passes from the clamped offer: within 8000 µs, within the ceiling, within the
offered airtime, and in the cap pass within the cap's remainder; and the caps they read. -/
def Obligations.BudgetBounds : Prop :=
  ∀ (s : State) (r : Radio) (g : GroupIndex) (airtime : BitVec 16),
    s.budget r g .borrow (clampOffer airtime) =
      min (min airtime.toNat 8000) s.profile[g].ceiling ∧
    s.budget r g .cap (clampOffer airtime) =
      min (min (min airtime.toNat 8000) s.profile[g].ceiling)
        (s.capOf r g - (s.radio r).usage[g]) ∧
    (∀ pass, s.budget r g pass (clampOffer airtime) ≤ 8000) ∧
    (s.withinCap r g = true ↔ (s.radio r).usage[g] < s.capOf r g) ∧
    s.capOf r g = (match (s.radio r).epoch.inForce with
      | some n => n
      | none => (s.radio r).settings.epochLength) * s.profile[g].cap / 1000

/-- Frame selection takes the longest run that fits: what it examines is a run of the queue; of it the
frames with no drop reason are taken and the others are retired in passing; the sum grows by the taken
frames' times; the first frame left, if any, has no drop reason and is left because 64 frames are taken or
because it does not fit. -/
def Obligations.SelectionTakesLongestFit : Prop :=
  ∀ (reason : Slot → Option Reason) (time : Slot → Nat) (fits : Nat → Bool) (n sum : Nat)
    (fs : List Slot), n ≤ 64 →
    let sel := selectFrames reason time fits n sum fs
    ∃ seen : List Slot, fs = seen ++ sel.kept ∧
      sel.taken = seen.filter (fun f => (reason f).isNone) ∧
      sel.drops.map (fun d => (d.slot, some d.reason)) =
        (seen.filter (fun f => (reason f).isSome)).map (fun f => (f, reason f)) ∧
      sel.sum = sum + (sel.taken.map time).sum ∧
      n + sel.taken.length ≤ 64 ∧
      (sel.taken ≠ [] → fits sel.sum = true) ∧
      ∀ f ∈ sel.kept.head?, reason f = none ∧
        (n + sel.taken.length = 64 ∨ fits (sel.sum + time f) = false)

/-- The expiry of a running epoch timer in its last cycle rolls every group of the radio over with the caps of
the epoch now ending and begins the next epoch; the other radio and everything else are kept. A stopped timer
and one with time left do not expire. That the expiry command has its effect in the timer's last cycle, and
none with time left, is the model's choice (log 3). -/
def Obligations.EpochExpiryRollsOver : Prop :=
  ∀ (r : Radio) (s : State), Spec.timersRun s →
    ((s.radio r).epoch.running = true → (s.radio r).epoch.remaining ≤ 1 →
      exec (.epochTimerExpiry r) s = .next (Spec.withRadio s r { s.radio r with
        usage := Vector.ofFn fun g : GroupIndex =>
          (min 32767 (max 0 (((s.radio r).usage[g] : Int) - (s.capOf r g : Int)))).toNat
        borrowed := #v[0, 0, 0, 0]
        epoch := ⟨true, (s.radio r).settings.epochLength * 200,
          some (s.radio r).settings.epochLength⟩ })) ∧
    ((s.radio r).epoch.running = false ∨ 1 < (s.radio r).epoch.remaining →
      exec (.epochTimerExpiry r) s = .next s)

/-! ### The Station Table -/

/-- ADMIT: the checks in their order, each refusal writing nothing; a station that passes them gets the
record of R28, joins no ring and raises no event. -/
def Obligations.AdmitChecksThenFills : Prop :=
  ∀ (s : State) (index : BitVec 16) (ssid : Byte) (owner : BitVec 2) (pinned : Bool) (role weight : Byte)
    (rate : BitVec 16), Spec.controlOpen s →
    let answered (t : State) := exec (.admitStation index ssid owner pinned role weight rate) s = .next t
    (512 ≤ index.toNat ∨ 15 < ssid.toNat ∨ owner = 0 ∨ owner = 3 →
      answered (Spec.header s 0x01 .range)) ∧
    (∀ (i : StationIndex) (r : Radio), index.toNat = i.val → ssid.toNat ≤ 15 → owner = radioCode r →
      ((s.station i).state ≠ .free → answered (Spec.header s 0x01 .stationBusy)) ∧
      ((s.station i).state = .free →
        ((∀ g : GroupIndex, ¬ Spec.selects s.profile[g] ssid.toNat role) →
          answered (Spec.header s 0x01 .noGroup)) ∧
        ∀ g : GroupIndex, Spec.claims s g ssid.toNat role →
          (s.profile[g].closed = true → answered (Spec.header s 0x01 .groupClosed)) ∧
          (s.profile[g].closed = false →
            answered (Spec.sends (Spec.withStation s i
              { state := .idle, group := g, ssid := BitVec.ofNat 4 ssid.toNat, role := role, owner := r,
                pendingOwner := none, settle := none, pinned := pinned, dismissMark := false,
                power := .awake, weight := Spec.nearest 1 32 weight.toNat,
                rate := Spec.rateTaken 0 rate, deficit := 0, queue := [], hold := none,
                grantTag := none, airtimeTotal := 0, delivered := 0, dropped := 0 })
              (.control 0x01 (Spec.written (1 ≤ weight.toNat ∧ weight.toNat ≤ 32))
                (.stationGroup i g))))))

/-- DISMISS: refused for an index out of range or a FREE station; immediate for a station without a grant;
deferred to the grant's end for a GRANTED one; a repeated one changes nothing. -/
def Obligations.DismissByState : Prop :=
  ∀ (s : State) (index : BitVec 16), Spec.controlOpen s →
    let answered (t : State) := exec (.dismiss index) s = .next t
    (512 ≤ index.toNat → answered (Spec.header s 0x02 .range)) ∧
    ∀ i : StationIndex, index.toNat = i.val →
      let st := s.station i
      (st.state = .free → answered (Spec.header s 0x02 .noStation)) ∧
      (st.state ≠ .free → st.state ≠ .granted →
        answered (Spec.header
          (Spec.withStation (Spec.retired (Spec.leaves s i) (Spec.notices .dismissed st.queue)) i
            (Spec.vacant st)) 0x02 .done)) ∧
      (st.state = .granted → st.dismissMark = false →
        answered (Spec.header
          (Spec.withStation (Spec.retired s (Spec.notices .dismissed st.queue)) i
            { st with queue := [], pendingOwner := none, dismissMark := true }) 0x02 .deferred)) ∧
      (st.state = .granted → st.dismissMark = true → answered (Spec.header s 0x02 .deferred))

/-- TUNE writes the clamped weight of an admitted station without a dismiss mark and nothing else. -/
def Obligations.TuneWritesWeight : Prop :=
  ∀ (s : State) (index : BitVec 16) (weight : Byte) (i : StationIndex), Spec.controlOpen s →
    index.toNat = i.val → Spec.admitted (s.station i) →
    exec (.tune index weight) s = .next (Spec.header
      (Spec.withStation s i { s.station i with weight := Spec.nearest 1 32 weight.toNat }) 0x08
      (Spec.written (1 ≤ weight.toNat ∧ weight.toNat ≤ 32)))

/-- REMATCH: refused where no group or a closed one claims the station; no effect in its own group; else the
group field takes the claiming group, and a READY station moves to the tail of that group's ring. -/
def Obligations.RematchFollowsSelectors : Prop :=
  ∀ (s : State) (index : BitVec 16) (i : StationIndex), Spec.controlOpen s → index.toNat = i.val →
    Spec.admitted (s.station i) →
    let st := s.station i
    let answered (t : State) := exec (.rematch index) s = .next t
    ((∀ g : GroupIndex, ¬ Spec.selects s.profile[g] st.ssid.toNat st.role) →
      answered (Spec.header s 0x09 .noGroup)) ∧
    ∀ g : GroupIndex, Spec.claims s g st.ssid.toNat st.role →
      (s.profile[g].closed = true → answered (Spec.header s 0x09 .groupClosed)) ∧
      (s.profile[g].closed = false → g = st.group →
        answered (Spec.sends s (.control 0x09 .done (.stationGroup i g)))) ∧
      (s.profile[g].closed = false → g ≠ st.group → st.state ≠ .ready →
        answered (Spec.sends (Spec.withStation s i { st with group := g })
          (.control 0x09 .done (.stationGroup i g)))) ∧
      (s.profile[g].closed = false → g ≠ st.group → st.state = .ready →
        answered (Spec.sends
          (Spec.joins (Spec.withStation (Spec.leaves s i) i { st with group := g }) st.owner g i)
          (.control 0x09 .done (.stationGroup i g))))

/-- PIN and UNPIN write the pin of an admitted station without a dismiss mark and nothing else; PIN is
refused STEERING while a pending owner is present. -/
def Obligations.PinAndUnpin : Prop :=
  ∀ (s : State) (index : BitVec 16) (i : StationIndex), Spec.controlOpen s → index.toNat = i.val →
    Spec.admitted (s.station i) →
    ((s.station i).pendingOwner ≠ none →
      exec (.pin index) s = .next (Spec.header s 0x06 .steering)) ∧
    ((s.station i).pendingOwner = none →
      exec (.pin index) s =
        .next (Spec.header (Spec.withStation s i { s.station i with pinned := true }) 0x06 .done)) ∧
    exec (.unpin index) s =
      .next (Spec.header (Spec.withStation s i { s.station i with pinned := false }) 0x07 .done)

/-- TUNE, REMATCH, PIN, UNPIN and PURGE are refused RANGE for an index above 511 and NO_STATION for a FREE
or dismiss-marked station, and then change nothing. -/
def Obligations.StationRequestsRefused : Prop :=
  ∀ (s : State) (index : BitVec 16) (weight : Byte) (c : Instr) (kind : Byte), Spec.controlOpen s →
    (c, kind) ∈ [(.tune index weight, 0x08), (.rematch index, 0x09), (.pin index, 0x06),
      (.unpin index, 0x07), (.purge index, 0x04)] →
    (512 ≤ index.toNat → exec c s = .next (Spec.header s kind .range)) ∧
    ∀ i : StationIndex, index.toNat = i.val →
      (s.station i).state = .free ∨ (s.station i).dismissMark = true →
      exec c s = .next (Spec.header s kind .noStation)

/-- STATION READ answers the record as held, remaining times rounded up to whole units, and changes
nothing else. -/
def Obligations.StationReadReturnsRecord : Prop :=
  ∀ (s : State) (index : BitVec 16), Spec.controlOpen s →
    (512 ≤ index.toNat → exec (.stationRead index) s = .next (Spec.header s 0x0A .range)) ∧
    ∀ i : StationIndex, index.toNat = i.val →
      let st := s.station i
      exec (.stationRead index) s = .next (Spec.sends s (.control 0x0A .done (.snapshot
        { index := i, state := st.state, group := st.group, ssid := st.ssid, role := st.role,
          owner := st.owner, pinned := st.pinned, power := st.power, weight := st.weight,
          rate := st.rate, deficit := st.deficit, pendingOwner := st.pendingOwner,
          settleMs := st.settle.map fun n => (n + 199999) / 200000,
          holdUs := st.hold.map fun n => (n + 199) / 200, grantTag := st.grantTag,
          dismissMark := st.dismissMark, queueLength := st.queue.length,
          airtimeTotal := st.airtimeTotal, delivered := st.delivered, dropped := st.dropped })))

/-- STATION SCAN: refused RANGE outside 1 to 8; else the first `count` stations that are not FREE from the
cursor upward, in ascending index; the cursor stands behind the last one collected, or at 0 with END where
the search reached 511. -/
def Obligations.StationScanCollects : Prop :=
  ∀ (s : State) (count : BitVec 4) (restart : Bool), Spec.controlOpen s →
    (count = 0 ∨ 8 < count.toNat →
      exec (.stationScan count restart) s = .next (Spec.header s 0x0B .range)) ∧
    (count ≠ 0 → count.toNat ≤ 8 →
      let start := if restart then 0 else s.scanCursor.val
      ∃ (found : List StationIndex) (cursor : StationIndex) (atEnd : Bool),
        exec (.stationScan count restart) s = .next (Spec.sends { s with scanCursor := cursor }
          (.control 0x0B .done (.scan (found.map s.snapshot) atEnd))) ∧
        found.Pairwise (· < ·) ∧ found.length ≤ count.toNat ∧
        (∀ i ∈ found, start ≤ i.val ∧ (s.station i).state ≠ .free) ∧
        (∀ j : StationIndex, start ≤ j.val → (s.station j).state ≠ .free → j ∉ found →
          found.length = count.toNat ∧ ∀ i ∈ found, i < j) ∧
        (atEnd = true → cursor = 0) ∧
        (atEnd = false → found.length = count.toNat ∧
          ∃ i, found.getLast? = some i ∧ cursor.val = i.val + 1) ∧
        (atEnd = true ↔ found.length < count.toNat ∨ (511 : StationIndex) ∈ found))

/-! ### The Descriptor Pool -/

/-- QUEUE, for every entry list a record can carry: RANGE for an index above 511 or an entry count outside 1
to 16, and nothing changes; else DONE with one outcome per entry and the new queue length, each entry
evaluated in list order by the first check that holds, and the station's transition if any was accepted. -/
def Obligations.QueueEvaluatesEntries : Prop :=
  ∀ (s : State) (index : BitVec 16) (es : List QueueEntry), Spec.controlOpen s →
    let answered (t : State) := exec (.queue index es) s = .next t
    (es.length ≤ 126 → (512 ≤ index.toNat ∨ es.length = 0 ∨ 16 < es.length) →
      answered (Spec.header s 0x03 .range)) ∧
    ∀ i : StationIndex, index.toNat = i.val → 1 ≤ es.length → es.length ≤ 16 →
      let done := Spec.entries i s es
      let t := if Code.done ∈ done.2 then Spec.afterQueue done.1 i else done.1
      answered (Spec.sends t
        (.control 0x03 .done (.queueOutcomes i (t.station i).queue.length done.2)))

/-- PURGE retires the whole queue PURGED, head first, and answers how many; a station without a grant goes
IDLE, out of its ring, without a hold; a GRANTED one keeps its grant. -/
def Obligations.PurgeRetiresQueue : Prop :=
  ∀ (s : State) (index : BitVec 16) (i : StationIndex), Spec.controlOpen s → index.toNat = i.val →
    Spec.admitted (s.station i) →
    let st := s.station i
    let answer := Answer.control 0x04 .done (.purged st.queue.length)
    (st.state = .granted → exec (.purge index) s = .next (Spec.sends
      (Spec.withStation (Spec.retired s (Spec.notices .purged st.queue)) i { st with queue := [] })
      answer)) ∧
    (st.state ≠ .granted → exec (.purge index) s = .next (Spec.sends
      (Spec.withStation (Spec.retired (Spec.leaves s i) (Spec.notices .purged st.queue)) i
        { st with queue := [], state := .idle, hold := none }) answer))

/-- COLLECT takes the oldest notices, no more than the count and no more than there are, and frees their
slots. -/
def Obligations.CollectTakesOldest : Prop :=
  ∀ (s : State) (count : Byte), Spec.controlOpen s →
    (count.toNat = 0 ∨ 32 < count.toNat →
      exec (.collect count) s = .next (Spec.header s 0x14 .range)) ∧
    (1 ≤ count.toNat → count.toNat ≤ 32 →
      ∃ taken left : List Notice, s.releaseList = taken ++ left ∧
        taken.length = min count.toNat s.releaseList.length ∧
        exec (.collect count) s = .next (Spec.sends { s with releaseList := left }
          (.control 0x14 .done (.notices taken left.length))) ∧
        (Safety.PoolBounded s →
          State.freeCount { s with releaseList := left } = s.freeCount + taken.length))

/-! ### Groups and profiles -/

/-- GROUP SET writes the thirteen values, each number at its nearest bound, and answers them with
DONE_ADJUSTED exactly where one was out of range; GROUP READ answers the settings held; a group above 3 is
refused. -/
def Obligations.GroupSetAndRead : Prop :=
  ∀ (s : State) (group : Byte) (b : GroupBlock), Spec.controlOpen s →
    (4 ≤ group.toNat →
      exec (.groupSet group b) s = .next (Spec.header s 0x0C .range) ∧
      exec (.groupRead group) s = .next (Spec.header s 0x0D .range)) ∧
    ∀ g : GroupIndex, group.toNat = g.val →
      let settings : GroupSettings :=
        { selector := b.selector, ssidSet := b.ssidSet, roleLow := b.roleLow, roleHigh := b.roleHigh,
          closed := b.closed, quantum := Spec.nearest 64 4096 b.quantum.toNat,
          cap := Spec.nearest 0 1000 b.cap.toNat, borrow := b.borrow,
          ceiling := Spec.nearest 256 8000 b.ceiling.toNat,
          holdTime := Spec.nearest 0 4000 b.holdTime.toNat,
          releaseCount := Spec.nearest 1 64 b.releaseCount.toNat,
          retryLimit := Spec.nearest 1 15 b.retryLimit.toNat,
          lifetime := Spec.nearest 0 10000 b.lifetime.toNat,
          queueLimit := Spec.nearest 1 2048 b.queueLimit.toNat }
      exec (.groupSet group b) s = .next (Spec.sends { s with profile := s.profile.set g settings }
        (.control 0x0C
          (Spec.written ((64 ≤ b.quantum.toNat ∧ b.quantum.toNat ≤ 4096) ∧ b.cap.toNat ≤ 1000 ∧
            (256 ≤ b.ceiling.toNat ∧ b.ceiling.toNat ≤ 8000) ∧ b.holdTime.toNat ≤ 4000 ∧
            (1 ≤ b.releaseCount.toNat ∧ b.releaseCount.toNat ≤ 64) ∧ 1 ≤ b.retryLimit.toNat ∧
            b.lifetime.toNat ≤ 10000 ∧ (1 ≤ b.queueLimit.toNat ∧ b.queueLimit.toNat ≤ 2048)))
          (.groupSettings g s.stack.length settings))) ∧
      exec (.groupRead group) s = .next (Spec.sends s
        (.control 0x0D .done (.groupSettings g s.stack.length s.profile[g])))

/-- PROFILE SAVE pushes a copy of the active profile, PROFILE RESTORE pops the most recent entry and makes
it active; at depth 4 and at depth 0 they are refused; nothing else changes. -/
def Obligations.ProfileStackPushesAndPops : Prop :=
  ∀ s : State, Spec.controlOpen s →
    (4 ≤ s.stack.length → exec .profileSave s = .next (Spec.header s 0x0E .stackFull)) ∧
    (s.stack.length < 4 → exec .profileSave s =
      .next (Spec.sends { s with stack := s.profile :: s.stack }
        (.control 0x0E .done (.stackDepth (s.stack.length + 1))))) ∧
    (s.stack = [] → exec .profileRestore s = .next (Spec.header s 0x0F .stackEmpty)) ∧
    ∀ (p : Profile) (rest : List Profile), s.stack = p :: rest → exec .profileRestore s =
      .next (Spec.sends { s with profile := p, stack := rest }
        (.control 0x0F .done (.stackDepth rest.length)))

/-! ### Radio settings -/

/-- RADIO SET writes the five settings of one radio at their nearest bounds and answers them as written;
a field that names no radio is refused and writes nothing. -/
def Obligations.RadioSetWrites : Prop :=
  ∀ (s : State) (radio : BitVec 2) (b : RadioBlock), Spec.controlOpen s →
    (radio = 0 ∨ radio = 3 → exec (.radioSet radio b) s = .next (Spec.header s 0x10 .range)) ∧
    ∀ r : Radio, radio = radioCode r →
      let settings : RadioSettings :=
        { epochLength := Spec.nearest 10000 1000000 b.epochLength.toNat
          ppduOverhead := Spec.nearest 0 1023 b.ppduOverhead.toNat
          frameOverhead := b.frameOverhead.toNat
          grantTimeout := Spec.nearest 1000 65535 b.grantTimeout.toNat
          defaultRate := Spec.nearest 10 24000 b.defaultRate.toNat }
      exec (.radioSet radio b) s = .next (Spec.sends
        (Spec.withRadio s r { s.radio r with settings := settings })
        (.control 0x10
          (Spec.written ((10000 ≤ b.epochLength.toNat ∧ b.epochLength.toNat ≤ 1000000) ∧
            b.ppduOverhead.toNat ≤ 1023 ∧ 1000 ≤ b.grantTimeout.toNat ∧
            (10 ≤ b.defaultRate.toNat ∧ b.defaultRate.toNat ≤ 24000)))
          (.radioSettings r settings)))

/-- RADIO READ answers the figures of the radio named as held and changes nothing else. -/
def Obligations.RadioReadReturnsFigures : Prop :=
  ∀ (s : State) (radio : BitVec 2), Spec.controlOpen s →
    (radio = 0 ∨ radio = 3 → exec (.radioRead radio) s = .next (Spec.header s 0x11 .range)) ∧
    ∀ r : Radio, radio = radioCode r →
      let u := s.radio r
      let length := match u.epoch.inForce with
        | some n => n
        | none => u.settings.epochLength
      exec (.radioRead radio) s = .next (Spec.sends s (.control 0x11 .done (.radioFigures
        { radio := r, linkUp := u.linkUp, settings := u.settings, epochRunning := u.epoch.running,
          epochRemainingUs := (u.epoch.remaining + 199) / 200, epochInForce := length,
          groups := [0, 1, 2, 3].map fun g : GroupIndex =>
            { usage := u.usage[g], cap := length * s.profile[g].cap / 1000,
              borrowed := u.borrowed[g], ringLength := u.rings[g].length },
          counters := u.counters, nextTag := u.nextTag,
          grants := u.grants.map fun g => (g.tag, g.station) })))

/-! ### Steering -/

/-- STEER: the conditions of R142 in their order. A refusal writes nothing and answers the owner and pending
owner as held; a GRANTED station gets a pending owner; any other station is moved at once. -/
def Obligations.SteerChecksThenMoves : Prop :=
  ∀ (s : State) (index : BitVec 16) (target : BitVec 2), Spec.controlOpen s →
    let answered (t : State) := exec (.steer index target) s = .next t
    (512 ≤ index.toNat ∨ target = 0 ∨ target = 3 → answered (Spec.header s 0x05 .range)) ∧
    ∀ (i : StationIndex) (x : Radio), index.toNat = i.val → target = radioCode x →
      let st := s.station i
      let held (code : Code) :=
        answered (Spec.sends s (.control 0x05 code (.steered i st.owner st.pendingOwner)))
      let moved : Station :=
        { st with
          owner := x, pendingOwner := none, power := .awake, rate := 0,
          settle := if s.device.settleTime = 0 then none else some (s.device.settleTime * 200000) }
      let done (t : State) :=
        answered (Spec.sends t (.control 0x05 .done (.steered i x none)))
      (¬ Spec.admitted st → held .noStation) ∧
      (Spec.admitted st → st.pinned = true → held .pinned) ∧
      (Spec.admitted st → st.pinned = false → st.owner = x → held .done) ∧
      (Spec.admitted st → st.pinned = false → st.owner ≠ x → st.pendingOwner ≠ none →
        held .steering) ∧
      (Spec.admitted st → st.pinned = false → st.owner ≠ x → st.pendingOwner = none →
        (st.settle ≠ none → held .tooSoon) ∧
        (st.settle = none → st.state = .granted →
          answered (Spec.sends (Spec.withStation s i { st with pendingOwner := some x })
            (.control 0x05 .deferred (.steered i st.owner (some x))))) ∧
        (st.settle = none → st.state = .idle ∨ st.state = .holding →
          done (Spec.withStation s i moved)) ∧
        (st.settle = none → st.state = .ready ∨ st.state = .dozing →
          done (Spec.joins
            (Spec.withStation (Spec.leaves s i) i { moved with state := .ready, hold := none })
            x st.group i)))

/-! ### Readiness and expiries -/

/-- In its last cycle a hold expires and takes the station to READY at the tail of the ring of its owner and
group; a settle timer expires and removes the window; a millisecond ends, which counts 1 on the clock,
wrapping, and begins the next. Each leaves everything else. A stopped timer and one with time left do not
expire, so no expiry follows a hold that has ended (log 3). -/
def Obligations.TimersExpire : Prop :=
  ∀ (s : State) (i : StationIndex), Spec.timersRun s →
    let st := s.station i
    (∀ n : Nat, st.state = .holding → st.hold = some n → n ≤ 1 →
      exec (.holdTimerExpiry i) s = .next (Spec.joins
        (Spec.withStation s i { st with state := .ready, hold := none }) st.owner st.group i)) ∧
    (st.state ≠ .holding ∨ st.hold = none ∨ (∃ n, st.hold = some n ∧ 1 < n) →
      exec (.holdTimerExpiry i) s = .next s) ∧
    (∀ n : Nat, st.settle = some n → n ≤ 1 →
      exec (.settleTimerExpiry i) s = .next (Spec.withStation s i { st with settle := none })) ∧
    (st.settle = none ∨ (∃ n, st.settle = some n ∧ 1 < n) →
      exec (.settleTimerExpiry i) s = .next s) ∧
    (199999 ≤ s.msPhase → exec .millisecondClockAdvance s =
      .next { s with msClock := BitVec.ofNat 32 (s.msClock.toNat + 1), msPhase := 0 }) ∧
    (s.msPhase < 199999 → exec .millisecondClockAdvance s = .next s)

/-- NOTE on an UP link: refused for a power value that names none, a station that is FREE or out of range,
or another radio's station; else TAKEN, the rate part written clamped and the power part taking the station
to the state of R134. -/
def Obligations.NoteChecksThenWrites : Prop :=
  ∀ (s : State) (r : Radio) (index : BitVec 16) (power : BitVec 2) (rate : BitVec 16), Spec.linkOpen s r →
    let answered (t : State) := exec (.note r index power rate) s = .next t
    (power = 3 → answered (Spec.raised (Spec.sendsOn s r (.refused 0x44 .malformed)) .malformed)) ∧
    (power ≠ 3 → 512 ≤ index.toNat → answered (Spec.sendsOn s r (.refused 0x44 .noStation))) ∧
    ∀ i : StationIndex, power ≠ 3 → index.toNat = i.val →
      ((s.station i).state = .free → answered (Spec.sendsOn s r (.refused 0x44 .noStation))) ∧
      ((s.station i).state ≠ .free → (s.station i).owner ≠ r →
        answered (Spec.sendsOn s r (.refused 0x44 .notOwner))) ∧
      ((s.station i).state ≠ .free → (s.station i).owner = r →
        let st := { s.station i with rate := Spec.rateTaken (s.station i).rate rate }
        let took (t : State) := answered (Spec.sendsOn t r (.taken 0x44 index))
        (power = 0 → took (Spec.withStation s i st)) ∧
        (power = 1 → st.state = .holding ∨ st.state = .ready →
          took (Spec.withStation (Spec.leaves s i) i
            { st with state := .dozing, power := .doze, hold := none })) ∧
        (power = 1 → st.state = .idle ∨ st.state = .dozing ∨ st.state = .granted →
          took (Spec.withStation s i { st with power := .doze })) ∧
        (power = 2 → st.state = .dozing →
          took (Spec.joins
            (Spec.withStation s i { st with state := .ready, power := .awake, hold := none })
            r st.group i)) ∧
        (power = 2 → st.state ≠ .dozing →
          took (Spec.withStation s i { st with power := .awake })))

/-! ### Events, device settings and the freeze -/

/-- EVENT READ changes no flag, EVENT CLEAR clears the flags named, EVENT FORCE sets them, EVENT MASK
replaces the enabled set; each is answered DONE with the three sets as they stand after it. -/
def Obligations.EventRequestsAnswerThreeSets : Prop :=
  ∀ (s : State) (kinds : BitVec 10), Spec.controlOpen s →
    let done (kind : Byte) (raw enabled : BitVec 10) : State :=
      Spec.sends { s with raw := raw, enabled := enabled }
        (.control kind .done (.eventSets raw enabled (raw &&& enabled)))
    exec .eventRead s = .next (done 0x15 s.raw s.enabled) ∧
    exec (.eventClear kinds) s = .next (done 0x16 (s.raw &&& ~~~kinds) s.enabled) ∧
    exec (.eventForce kinds) s = .next (done 0x17 (s.raw ||| kinds) s.enabled) ∧
    exec (.eventMask kinds) s = .next (done 0x18 s.raw kinds) ∧
    (s.eventLine = true ↔ s.raw &&& s.enabled ≠ 0)

/-- Every raw flag that is set stays set through every command but EVENT CLEAR, DEVICE RESET and the reset
input going low. -/
def Obligations.RawFlagsAreSticky : Prop :=
  ∀ (c : Instr) (s t : State), exec c s = .next t → (∀ kinds, c ≠ .eventClear kinds) →
    c ≠ .deviceReset → c ≠ .resetInputLow → s.raw &&& t.raw = s.raw

/-- DEVICE SET writes the four settings, each number at its nearest bound, and answers them as written; a
freeze mode field that names no mode is refused RANGE and nothing is written. -/
def Obligations.DeviceSetWrites : Prop :=
  ∀ (s : State) (b : DeviceBlock), Spec.controlOpen s →
    (b.freezeMode = 0 ∨ b.freezeMode = 3 →
      exec (.deviceSet b) s = .next (Spec.header s 0x12 .range)) ∧
    ∀ mode : FreezeMode, b.freezeMode = freezeModeCode mode →
      let settings : DeviceSettings :=
        { poolReserve := Spec.nearest 0 2048 b.poolReserve.toNat
          watermark := Spec.nearest 1 8192 b.watermark.toNat
          settleTime := Spec.nearest 0 60000 b.settleTime.toNat
          freezeMode := mode }
      exec (.deviceSet b) s = .next (Spec.sends { s with device := settings }
        (.control 0x12
          (Spec.written (b.poolReserve.toNat ≤ 2048 ∧
            (1 ≤ b.watermark.toNat ∧ b.watermark.toNat ≤ 8192) ∧ b.settleTime.toNat ≤ 60000))
          (.deviceSettings settings)))

/-- DEVICE READ answers the settings and figures as held and changes nothing else; the four slot counts of
its answer sum to 8192 while the slots in use do not exceed the pool. -/
def Obligations.DeviceReadReturnsFigures : Prop :=
  ∀ s : State, Spec.controlOpen s →
    ∃ f : DeviceFigures, exec .deviceRead s =
        .next (Spec.sends s (.control 0x13 .done (.deviceFigures f))) ∧
      f.settings = s.device ∧
      f.queued = (s.stations.toList.map fun st => st.queue.length).sum ∧
      f.lent = (s.radioA.grants.map fun g => g.frames.length).sum +
        (s.radioB.grants.map fun g => g.frames.length).sum ∧
      f.retired = s.releaseList.length ∧
      (f.queued + f.lent + f.retired ≤ 8192 → f.free + f.queued + f.lent + f.retired = 8192) ∧
      f.backlogged = (s.stations.toList.filter fun st => !st.queue.isEmpty).length ∧
      f.depth = s.stack.length ∧ f.clock = s.msClock ∧ f.linkAUp = s.radioA.linkUp ∧
      f.linkBUp = s.radioB.linkUp ∧ f.freezeInput = s.freezeInput ∧
      (f.frozen = true ↔ Spec.freeze s)

/-- DEVICE RESET leaves the reset values and the pins, discards every untaken request of the three links, and
has DONE as the one answer to send; until that answer is sent the Control Link is not ready (log 16, log
21). -/
def Obligations.DeviceResetLeavesResetValues : Prop :=
  ∀ s : State, Spec.controlOpen s →
    ∃ t : State, exec .deviceReset s = .next t ∧
      t = { State.reset with
        control := ⟨0, [.control 0x19 .done .empty]⟩, resetAnswerDue := true,
        freezeInput := s.freezeInput, choices := s.choices,
        pending := Spec.waitingReset s.pending } ∧
      t.ready .control = false ∧ (∀ r, t.ready (.radio r) = true) ∧
      ∃ u : State, exec (.answerSent .control) t = .next u ∧ u.control = ⟨0, []⟩ ∧
        u.ready .control = true

/-- The reset input: low gives every block its reset values, discards every untaken request of the three
links, and no ready line is high; high again leaves those values and all ready lines rise. That the freeze
input's pin keeps its level is the model's reading (log 16). -/
def Obligations.ResetInputHoldsThePart : Prop :=
  (∀ s : State, ∃ t : State, exec .resetInputLow s = .next t ∧
    t = { State.reset with
      resetInput := false, freezeInput := s.freezeInput, choices := s.choices,
      pending := Spec.waitingReset s.pending } ∧
    (∀ l, t.ready l = false) ∧
    exec .resetInputHigh t = .next { t with resetInput := true } ∧
    ∀ l, State.ready { t with resetInput := true } l = true) ∧
  ∀ s : State, exec .resetInputHigh s = .next { s with resetInput := true }

/-- While the reset input is low every record on every link is ignored, and so is every record on the Control
Link while the answer to DEVICE RESET is due: nothing is answered and no flag is set. A record that begins
then is not taken later, so its request, if it waits already, is dropped (log 9, log 21). -/
def Obligations.RequestsIgnoredInReset : Prop :=
  ∀ (c : Instr) (l : Link) (s : State),
    s.resetInput = false ∨ (l = .control ∧ s.resetAnswerDue = true) →
    ((requestLink c = some l ∨ (∃ kind, c = .malformedRecord l kind) ∨ c = .recordWithoutHeader l ∨
      c = .recordWhileNotReady l) → exec c s = .next s) ∧
    exec (.requestRecordBegins l) s = .next { s with pending := Spec.waiting l s.pending }

/-- The freeze input follows its pin; the freeze holds exactly while the freeze mode is HALT and the input
is asserted. -/
def Obligations.FreezeInputFollowsPin : Prop :=
  ∀ s : State,
    exec .freezeInputAsserted s = .next { s with freezeInput := true } ∧
    exec .freezeInputReleased s = .next { s with freezeInput := false } ∧
    (s.frozen = true ↔ Spec.freeze s)

/-! ### Links -/

/-- LINK START: on a DOWN link the four steps and LINK READY; on an UP link the radio-link reset first, its
buffers kept. -/
def Obligations.LinkStartBringsUp : Prop :=
  ∀ (s : State) (r : Radio), s.resetInput = true →
    ((s.radio r).linkUp = false → exec (.linkStart r) s =
      .next (Spec.sendsOn (Spec.linkStarted s r) r (.linkReady r))) ∧
    ((s.radio r).linkUp = true → exec (.linkStart r) s =
      .next (Spec.sendsOn (Spec.linkStarted (Spec.linkReset s r) r) r (.linkReady r)))

/-- 100 µs without an edge take an UP link down: the port's untaken requests are discarded unanswered, the
port is emptied and the radio-link reset made; a DOWN link, and one whose watch has not come to 100 µs, is
left as it is (log 3, log 21). An edge sets the watch of an UP link to 0 and nothing else. -/
def Obligations.LinkClockLossAndEdge : Prop :=
  ∀ (s : State) (r : Radio),
    (∀ n : Nat, (s.radio r).linkUp = true → (s.radio r).watch = some n → 19999 ≤ n →
      exec (.linkClockAbsent r) s = .next (Spec.linkReset
        (Spec.withRadio { s with pending := Spec.waiting (.radio r) s.pending } r
          { s.radio r with port := ⟨0, []⟩ }) r)) ∧
    ((s.radio r).linkUp = false ∨ (s.radio r).watch = none ∨
      (∃ n, (s.radio r).watch = some n ∧ n < 19999) → exec (.linkClockAbsent r) s = .next s) ∧
    ((s.radio r).linkUp = true → exec (.requestClockEdge r) s =
      .next (Spec.withRadio s r { s.radio r with watch := some 0 })) ∧
    ((s.radio r).linkUp = false → exec (.requestClockEdge r) s = .next s)

/-- Every radio request but LINK START is refused LINK_DOWN on a DOWN link, changes no state, raises no
event and increases no counter. -/
def Obligations.DownLinkRefuses : Prop :=
  ∀ (s : State) (c : Instr) (r : Radio) (kind : Byte), s.resetInput = true →
    (s.radio r).linkUp = false → Spec.upKind c = some (r, kind) →
    exec c s = .next (Spec.sendsOn s r (.refused kind .linkDown))

/-- A buffered record that fails a check of the port: MALFORMED and its event on the Control Link, with the
answer kind of the request kind or 80h; on a radio link LINK_DOWN without an event where the link is DOWN and
the kind is a request kind other than LINK START, else MALFORMED and its event. A QUEUE of more than 126
entries, which no record can carry, is answered like a malformed QUEUE (log 11, log 18). -/
def Obligations.MalformedRecordsAnswered : Prop :=
  (∀ (s : State) (kind : Byte), Spec.controlOpen s →
    (1 ≤ kind.toNat → kind.toNat ≤ 0x19 → exec (.malformedRecord .control kind) s =
      .next (Spec.raised (Spec.header s kind .malformed) .malformed)) ∧
    (kind.toNat = 0 ∨ 0x19 < kind.toNat → exec (.malformedRecord .control kind) s =
      .next (Spec.raised (Spec.header s 0 .malformed) .malformed))) ∧
  (∀ (s : State) (index : BitVec 16) (es : List QueueEntry), Spec.controlOpen s → 126 < es.length →
    exec (.queue index es) s = .next (Spec.raised (Spec.header s 0x03 .malformed) .malformed)) ∧
  ∀ (s : State) (r : Radio) (kind : Byte), s.resetInput = true →
    ((s.radio r).linkUp = false → 0x41 ≤ kind.toNat → kind.toNat ≤ 0x44 →
      exec (.malformedRecord (.radio r) kind) s =
        .next (Spec.sendsOn s r (.refused kind .linkDown))) ∧
    ((s.radio r).linkUp = true ∨ kind.toNat < 0x41 ∨ 0x44 < kind.toNat →
      exec (.malformedRecord (.radio r) kind) s =
        .next (Spec.raised (Spec.sendsOn s r (.refused kind .malformed)) .malformed))

/-- A record without a whole word and a record begun while ready is low are discarded unanswered: MALFORMED
is reported and nothing else changes. That RECORD_WHILE_NOT_READY is such a record whatever the ready line
shows is the model's choice (log 10). -/
def Obligations.DiscardedRecordsReported : Prop :=
  ∀ (s : State) (l : Link), s.resetInput = true → (l = .control → s.resetAnswerDue = false) →
    exec (.recordWithoutHeader l) s = .next (Spec.raised s .malformed) ∧
    exec (.recordWhileNotReady l) s = .next (Spec.raised s .malformed)

/-- The request buffers: the first word of a record claims one while fewer than four are claimed, and ready
is high exactly then; an answer sent in full leaves its port and frees one, and on the Control Link ends the
wait after DEVICE RESET. A record begun with ready low is discarded and reported (log 10): its request, if it
waits already, is dropped, and those in the buffers stay (log 21). With no answer to send, nothing is sent
(log 5). -/
def Obligations.BuffersClaimedAndFreed : Prop :=
  ∀ (s : State) (l : Link),
    (s.resetInput = true → (l = .control → s.resetAnswerDue = false) →
      (s.ready l = true ↔ (s.port l).claimed < 4) ∧
      ((s.port l).claimed < 4 → exec (.requestRecordBegins l) s =
        .next (s.setPort l ⟨(s.port l).claimed + 1, (s.port l).answers⟩)) ∧
      (4 ≤ (s.port l).claimed → exec (.requestRecordBegins l) s =
        .next (Spec.raised { s with
          pending := Spec.waitingBut l ((s.port l).claimed - (s.port l).answers.length) s.pending }
          .malformed))) ∧
    (∀ (a : Answer) (rest : List Answer), (s.port l).answers = a :: rest →
      exec (.answerSent l) s = .next
        { s.setPort l ⟨(s.port l).claimed - 1, rest⟩ with
          resetAnswerDue := if l = .control then false else s.resetAnswerDue }) ∧
    ((s.port l).answers = [] → exec (.answerSent l) s = .next s)

/-! ### Offers -/

/-- An OFFER without a visit: PASS FROZEN while the freeze holds, else WINDOW_FULL with two grants
outstanding, else NO_BACKLOG with four empty rings, else CAPPED where every ring that is not empty belongs to
a group out of cap that may not borrow; the reason is counted and nothing else changes. -/
def Obligations.OfferPassesAtOnce : Prop :=
  ∀ (s : State) (r : Radio) (airtime : BitVec 16), Spec.linkOpen s r → (s.radio r).marks = [] →
    (Spec.freeze s → exec (.offer r airtime) s = .next (Spec.passed s r .frozen)) ∧
    (¬ Spec.freeze s → 2 ≤ (s.radio r).grants.length →
      exec (.offer r airtime) s = .next (Spec.passed s r .windowFull)) ∧
    (¬ Spec.freeze s → (s.radio r).grants.length < 2 →
      (∀ g : GroupIndex, (s.radio r).rings[g] = []) →
      exec (.offer r airtime) s = .next (Spec.passed s r .noBacklog)) ∧
    (¬ Spec.freeze s → (s.radio r).grants.length < 2 →
      (∃ g : GroupIndex, (s.radio r).rings[g] ≠ []) →
      (∀ g : GroupIndex, (s.radio r).rings[g] ≠ [] →
        s.capOf r g ≤ (s.radio r).usage[g] ∧ s.profile[g].borrow = false) →
      exec (.offer r airtime) s = .next (Spec.passed s r .capped))

/-- An OFFER whose first visit grants, in either pass: no group before `g` is tried in that pass, and in the
borrow pass none was in the cap pass; the head of the ring of `g` has deficit 0 or above and a head frame that
is neither dropped nor over the budget. The frames are the head and those that frame selection takes behind it
at the rate in use while the estimate fits the budget. The station is GRANTED out of its ring; the estimate is
charged to its deficit and, in the cap pass, to usage, in the borrow pass to borrowed; and the grant record,
the counters, the tag and the answer are those of R97 to R99. -/
def Obligations.OfferFormsGrant : Prop :=
  ∀ (s : State) (r : Radio) (airtime : BitVec 16) (pass : PassKind) (g : GroupIndex) (i : StationIndex)
    (ring : List StationIndex) (f : Slot) (rest : List Slot),
    Spec.linkOpen s r → ¬ Spec.freeze s → (s.radio r).grants.length < 2 →
    (match pass with
      | .cap => (s.radio r).usage[g] < s.capOf r g ∧
          ∀ h : GroupIndex, h < g → (s.radio r).rings[h] = [] ∨ s.capOf r h ≤ (s.radio r).usage[h]
      | .borrow => s.profile[g].borrow = true ∧
          (∀ h : GroupIndex, (s.radio r).rings[h] = [] ∨ s.capOf r h ≤ (s.radio r).usage[h]) ∧
          ∀ h : GroupIndex, h < g → (s.radio r).rings[h] = [] ∨ s.profile[h].borrow = false) →
    (s.radio r).rings[g] = i :: ring → (s.station i).group = g → (s.station i).queue = f :: rest →
    0 ≤ (s.station i).deficit → Spec.drop s r i f = none →
    let st := s.station i
    let u := s.radio r
    let most := min (min airtime.toNat 8000) s.profile[g].ceiling
    let budget := match pass with
      | .cap => min most (s.capOf r g - u.usage[g])
      | .borrow => most
    Spec.single s r i f ≤ budget →
    let sel := selectFrames (Spec.drop s r i) (Spec.time s r i)
      (fun sum => Spec.estimated s r sum ≤ budget) 1 (Spec.time s r i f) rest
    let tag := if u.nextTag ∈ u.grants.map (·.tag) then u.nextTag + 1 else u.nextTag
    let charge := Spec.estimated s r sel.sum
    let grant : Grant :=
      { tag := tag, station := i, pass := pass, group := g, frames := f :: sel.taken, estimate := charge,
        budget := budget, rate := Spec.rateUsed s r i, timer := u.settings.grantTimeout * 200 }
    let lent := Spec.retired (Spec.withStation s i { st with
      state := .granted, grantTag := some tag, deficit := st.deficit - charge, queue := sel.kept,
      dropped := st.dropped + BitVec.ofNat 32 sel.drops.length }) sel.drops
    let charged := Spec.increased lent r g pass charge
    exec (.offer r airtime) s = .next (Spec.sendsOn (Spec.withRadio charged r
      { charged.radio r with
        rings := (charged.radio r).rings.set g ring, marks := [], grants := u.grants ++ [grant]
        nextTag := tag + 1
        counters := { u.counters with grantsFormed := u.counters.grantsFormed + 1 } }) r
      (.grant grant))

/-- A visit that forms no grant counts once and makes its head drops; it leaves an emptied station IDLE and
out of the ring, credits a station with a deficit below 0 with its effective quantum and rotates, or passes
over a station whose head frame exceeds the budget, rotating and marking it. -/
def Obligations.VisitWithoutGrant : Prop :=
  ∀ (w : Walk) (r : Radio) (pass : PassKind) (offer : Nat) (g : GroupIndex) (i : StationIndex)
    (ring : List StationIndex) (pre : List Notice) (kept : List Slot),
    (w.state.radio r).rings[g] = i :: ring →
    (w.state.station i).queue = pre.map (·.slot) ++ kept →
    (∀ n ∈ pre, Spec.drop w.state r i n.slot = some n.reason) →
    (∀ f ∈ kept.head?, Spec.drop w.state r i f = none) →
    let s := Spec.dropped w.state i pre kept
    let st := s.station i
    let set := w.state.profile[st.group]
    (kept = [] → w.visit r pass offer g i =
      { w with
        visits := w.visits - 1
        state := Spec.withStation (Spec.withRing s r g ring) i { st with state := .idle } }) ∧
    (∀ (f : Slot) (fs : List Slot), kept = f :: fs →
      (st.deficit < 0 → w.visit r pass offer g i =
        { w with
          visits := w.visits - 1
          state := Spec.withStation (Spec.withRing s r g (ring ++ [i])) i
            { st with deficit := st.deficit + (set.quantum * st.weight / 8 : Nat) } }) ∧
      (0 ≤ st.deficit → w.state.budget r g pass offer < Spec.single w.state r i f →
        w.visit r pass offer g i =
          { w with
            visits := w.visits - 1, passedOver := true
            state := Spec.withRadio s r { s.radio r with
              rings := (s.radio r).rings.set g (ring ++ [i]), marks := i :: (s.radio r).marks } }))

/-- Every grant an OFFER answers, at whichever visit: 1 to 64 frames, an estimate that is their estimate at
the rate in use and within the budget, a budget within 8000 µs and the offer, the grant timeout as its time, a
tag no outstanding grant carries, and a GRANTED station of the grant's group whose deficit was 0 or above
before the charge. A CAP grant is charged to usage of a group that was within cap, a BORROW grant to borrowed
of a group that may borrow, and no other group counter of the radio changes. -/
def Obligations.OfferedGrantsAreBounded : Prop :=
  ∀ (s t : State) (r : Radio) (airtime : BitVec 16) (g : Grant), exec (.offer r airtime) s = .next t →
    (t.radio r).port.answers = (s.radio r).port.answers ++ [.grant g] →
    1 ≤ g.frames.length ∧ g.frames.length ≤ 64 ∧ g.rate = Spec.rateUsed s r g.station ∧
    g.estimate = (s.radio r).settings.ppduOverhead +
      divUp ((g.frames.map fun f => frameTime (s.radio r).settings g.rate f.length).sum) 16 ∧
    g.estimate ≤ g.budget ∧ g.budget ≤ 8000 ∧ g.budget ≤ airtime.toNat ∧
    g.timer = (s.radio r).settings.grantTimeout * 200 ∧
    (t.radio r).grants = (s.radio r).grants ++ [g] ∧
    g.tag ∉ (s.radio r).grants.map (·.tag) ∧ (t.radio r).nextTag = g.tag + 1 ∧
    g.group = (s.station g.station).group ∧
    (t.station g.station).state = .granted ∧ (t.station g.station).grantTag = some g.tag ∧
    0 ≤ (t.station g.station).deficit + (g.estimate : Int) ∧
    (t.radio r).usage = (match g.pass with
      | .cap => (s.radio r).usage.set g.group
          (min ((s.radio r).usage[g.group] + g.estimate) 16777215)
      | .borrow => (s.radio r).usage) ∧
    (t.radio r).borrowed = (match g.pass with
      | .cap => (s.radio r).borrowed
      | .borrow => (s.radio r).borrowed.set g.group
          (min ((s.radio r).borrowed[g.group] + g.estimate) 16777215)) ∧
    (Safety.RingsAgree s →
      (g.pass = .cap → (s.radio r).usage[g.group] < s.capOf r g.group) ∧
      (g.pass = .borrow → s.profile[g.group].borrow = true))

/-- What an OFFER leaves alone: the other radio, every station in no ring of this radio, the settings, the
clock, the Control Link, this radio's epoch and link; the release list only grows, by EXPIRED and OVERSIZE
notices; and exactly one of the first seven radio counters counts. -/
def Obligations.OfferFrame : Prop :=
  ∀ (s t : State) (r : Radio) (airtime : BitVec 16), Spec.linkOpen s r →
    exec (.offer r airtime) s = .next t →
    t.radio (otherRadio r) = s.radio (otherRadio r) ∧
    (∀ i, (∀ g : GroupIndex, i ∉ (s.radio r).rings[g]) → t.station i = s.station i) ∧
    (∀ i, (t.station i).owner = (s.station i).owner ∧ (t.station i).group = (s.station i).group ∧
      (t.station i).rate = (s.station i).rate ∧ (t.station i).weight = (s.station i).weight) ∧
    t = { s with
      stations := t.stations, radioA := t.radioA, radioB := t.radioB, releaseList := t.releaseList,
      raw := t.raw } ∧
    (t.radio r).settings = (s.radio r).settings ∧ (t.radio r).epoch = (s.radio r).epoch ∧
    (t.radio r).linkUp = (s.radio r).linkUp ∧ (t.radio r).watch = (s.radio r).watch ∧
    (∃ ns : List Notice, t.releaseList = s.releaseList ++ ns ∧
      ∀ n ∈ ns, n.reason = .expired ∨ n.reason = .oversize) ∧
    Spec.offersServed (t.radio r).counters = Spec.offersServed (s.radio r).counters + 1 ∧
    (t.radio r).counters.timeouts = (s.radio r).counters.timeouts

/-- The PASS reasons of a walk say what they mean at its end: NO_BACKLOG leaves every ring of the radio
empty; CAPPED leaves a ring that is not, and every such ring's group is out of cap and may not borrow;
TOO_SHORT leaves a station in a ring with deficit 0 or above whose head frame, which no test drops, exceeds
the budget of a pass; SEARCH_LIMIT is the walk that has spent its visits; and a PASS leaves the grants, the
tag and every group counter of the radio as they were. For a station alone in the radio's rings: one whose
head frame exceeds the offer or the ceiling is passed over, and one that 31 credits leave below 0 is credited
32 times. -/
def Obligations.PassReasonsHold : Prop :=
  (∀ (s t : State) (r : Radio) (airtime : BitVec 16) (reason : PassReason), Spec.linkOpen s r →
    exec (.offer r airtime) s = .next t →
    (t.radio r).port.answers = (s.radio r).port.answers ++ [.pass reason] →
    (reason = .noBacklog → ∀ g : GroupIndex, (t.radio r).rings[g] = []) ∧
    (reason = .capped → (∃ g : GroupIndex, (t.radio r).rings[g] ≠ []) ∧
      ∀ g : GroupIndex, (t.radio r).rings[g] ≠ [] →
        t.capOf r g ≤ (t.radio r).usage[g] ∧ t.profile[g].borrow = false) ∧
    (reason = .tooShort → ∃ (g : GroupIndex) (i : StationIndex) (f : Slot) (pass : PassKind),
      i ∈ (t.radio r).rings[g] ∧ (t.station i).queue.head? = some f ∧ Spec.drop t r i f = none ∧
      0 ≤ (t.station i).deficit ∧
      t.budget r g pass (min airtime.toNat 8000) < Spec.single t r i f) ∧
    (reason = .searchLimit → ((s.clearMarks r).walk r (min airtime.toNat 8000)).visits = 0) ∧
    (t.radio r).grants = (s.radio r).grants ∧ (t.radio r).nextTag = (s.radio r).nextTag ∧
    (t.radio r).usage = (s.radio r).usage ∧ (t.radio r).borrowed = (s.radio r).borrowed) ∧
  ∀ (s : State) (r : Radio) (airtime : BitVec 16) (g : GroupIndex) (i : StationIndex) (f : Slot)
    (rest : List Slot), Spec.linkOpen s r → ¬ Spec.freeze s → (s.radio r).grants.length < 2 →
    (s.radio r).marks = [] → (s.radio r).rings[g] = [i] →
    (∀ h : GroupIndex, h ≠ g → (s.radio r).rings[h] = []) → (s.radio r).usage[g] < s.capOf r g →
    (s.station i).queue = f :: rest → Spec.drop s r i f = none →
    let st := s.station i
    let credit := s.profile[st.group].quantum * st.weight / 8
    (0 ≤ st.deficit → min (min airtime.toNat 8000) s.profile[g].ceiling < Spec.single s r i f →
      exec (.offer r airtime) s = .next (Spec.passed s r .tooShort)) ∧
    (st.deficit + (31 * credit : Nat) < 0 →
      exec (.offer r airtime) s = .next (Spec.passed
        (Spec.withStation s i { st with deficit := st.deficit + (32 * credit : Nat) }) r .searchLimit))

/-! ### Grants in flight -/

/-- REPORT on an UP link: STALE for a tag no outstanding grant of the radio carries, MISMATCH for another
frame count, MALFORMED and its event for a field that is no outcome, each changing nothing else; else TAKEN,
and the grant ends by R111 with the effects of R114 to R118. -/
def Obligations.ReportSettlesGrant : Prop :=
  ∀ (s : State) (r : Radio) (tag : Byte) (airtime rate : BitVec 16) (fields : List (BitVec 2)),
    Spec.linkOpen s r →
    let answered (t : State) := exec (.report r tag airtime rate fields) s = .next t
    ((s.radio r).grants.find? (fun g => g.tag = tag) = none →
      answered (Spec.sendsOn s r (.refused 0x42 .stale))) ∧
    ∀ g : Grant, (s.radio r).grants.find? (fun g => g.tag = tag) = some g →
      (fields.length ≠ g.frames.length → answered (Spec.sendsOn s r (.refused 0x42 .mismatch))) ∧
      (fields.length = g.frames.length → 0 ∈ fields →
        answered (Spec.raised (Spec.sendsOn s r (.refused 0x42 .malformed)) .malformed)) ∧
      ∀ outcomes : List FrameOutcome, fields = outcomes.map Spec.outcomeField →
        outcomes.length = g.frames.length →
        answered (Spec.sendsOn (Spec.reported s r g airtime rate outcomes) r
          (.taken 0x42 (BitVec.ofNat 16 tag.toNat)))

/-- WITHDRAW on an UP link: STALE for a tag no outstanding grant of the radio carries; else the grant ends
with every frame unsent and the whole charge refunded, and TAKEN carries the tag. -/
def Obligations.WithdrawRefundsGrant : Prop :=
  ∀ (s : State) (r : Radio) (tag : Byte), Spec.linkOpen s r →
    ((s.radio r).grants.find? (fun g => g.tag = tag) = none →
      exec (.withdraw r tag) s = .next (Spec.sendsOn s r (.refused 0x43 .stale))) ∧
    ∀ g : Grant, (s.radio r).grants.find? (fun g => g.tag = tag) = some g →
      exec (.withdraw r tag) s = .next (Spec.sendsOn (Spec.withdrawn s r g) r
        (.taken 0x43 (BitVec.ofNat 16 tag.toNat)))

/-- The expiry of a grant's timer in its last cycle ends the grant with every frame unsent and the charge
standing; one of no outstanding grant, or of one with time left, changes nothing (log 3, log 5). -/
def Obligations.TimeoutEndsGrant : Prop :=
  ∀ (s : State) (r : Radio) (tag : Byte), Spec.timersRun s →
    ((s.radio r).grants.find? (fun g => g.tag = tag) = none →
      exec (.grantTimeout r tag) s = .next s) ∧
    ∀ g : Grant, (s.radio r).grants.find? (fun g => g.tag = tag) = some g →
      (g.timer ≤ 1 → exec (.grantTimeout r tag) s = .next (Spec.timedOut s r g)) ∧
      (1 < g.timer → exec (.grantTimeout r tag) s = .next s)

/-! ### Rules of the whole part -/

/-- Every request that is not ignored is answered once, on its own link and behind the answers there;
no other port changes. DEVICE RESET has its own statement. -/
def Obligations.EveryRequestAnsweredOnce : Prop :=
  ∀ (c : Instr) (l : Link) (s : State), requestLink c = some l → c ≠ .deviceReset →
    s.ignores l = false →
    ∃ (t : State) (a : Answer), exec c s = .next t ∧
      t.port l = ⟨(s.port l).claimed, (s.port l).answers ++ [a]⟩ ∧
      ∀ k, k ≠ l → t.port k = s.port k

/-- The commands of one radio leave the other radio alone: its settings, tag, counters, grants, group
counters, epoch, link and port are kept, and its rings only gain members at their tails. -/
def Obligations.OtherRadioKept : Prop :=
  ∀ (r : Radio) (c : Instr) (s t : State), Spec.ofRadio r c = true → exec c s = .next t →
    t.radio (otherRadio r) =
      { s.radio (otherRadio r) with rings := (t.radio (otherRadio r)).rings } ∧
    ∀ g : GroupIndex, (s.radio (otherRadio r)).rings[g] <+: (t.radio (otherRadio r)).rings[g]

/-- Every step keeps every setting in its range, the stack within four profiles, and every group counter
within 0 to 16,777,215. -/
def Obligations.RangesKept : Prop :=
  ∀ s t : State, Safety.SettingsInRange s → Safety.CountersBounded s → step s = .next t →
    Safety.SettingsInRange t ∧ Safety.CountersBounded t

/-- Every step keeps the links and the blocks of each radio in agreement: watch and epoch timer running
exactly while UP, no grant while DOWN, two grants at most with different tags, four buffers at most. -/
def Obligations.LinksAgreeKept : Prop :=
  ∀ s t : State, Safety.LinksAgree s → step s = .next t → Safety.LinksAgree t

/-- Every step keeps the slots in use within the pool's 8192. -/
def Obligations.PoolBoundKept : Prop :=
  ∀ s t : State, Safety.PoolBounded s → step s = .next t → Safety.PoolBounded t

/-- Every step keeps what `Safety.Coherent` lists: settings, counters and timers in range, so that a running
timer reads at least 1; links and grant tables in agreement; slots owned by their stations and counted, and
notices sound; station records of their state's shape with deficits in bound; rings that hold exactly the
READY stations; grants in range, and grants and GRANTED stations naming each other; the reset values while the
reset input is low, and DONE as the one answer while it is due. -/
def Obligations.CoherentKept : Prop :=
  ∀ s t : State, Safety.Coherent s → step s = .next t → Safety.Coherent t

/-- The part after reset is coherent. -/
def Obligations.CoherentAtReset : Prop := Safety.Coherent State.reset

/-! ### Records -/

/-- Decoding the record of a well-formed request gives the request back, every operand at every value its
record can hold. -/
def Obligations.DecodeInvertsEncode : Prop :=
  ∀ (i : Instr) (l : Link), requestLink i = some l → i.wellFormed = true →
    decodeRecord l (encodeRequest i) = i

/-- Reserved bits are ignored: two records of one link and one length whose headers agree in kind and word
count, and whose body words agree in every bit that the layout of their kind names, are read as the same
command. The bits named are those of R184 to R186, and of a REPORT's outcome words the positions up to its
outcome count. -/
def Obligations.ReservedBitsIgnored : Prop :=
  ∀ (l : Link) (h x : Word) (body other : List Word), x.extractLsb' 16 16 = h.extractLsb' 16 16 →
    other.length = body.length →
    let kind := (h.extractLsb' 24 8).toNat
    let n := ((body.getD 0 0).extractLsb' 16 7).toNat
    (∀ k < body.length,
      other.getD k 0 &&& Spec.named l kind n k = body.getD k 0 &&& Spec.named l kind n k) →
    decodeRecord l (x :: other) = decodeRecord l (h :: body)

/-- What the port reads from a framed record: no header without a whole word; a malformed record where the
header's count differs from the words framed; for a kind of fixed length a request exactly where the count is
the one the kind requires; for QUEUE exactly where it is 2 + 2 × entry count, for REPORT exactly where it is
3 + ceil(outcome count / 16); and a malformed record for a kind that is none of the link's. -/
def Obligations.RecordChecks : Prop :=
  ∀ l : Link, decodeRecord l [] = .recordWithoutHeader l ∧
    ∀ (h : Word) (body : List Word),
      let kind := h.extractLsb' 24 8
      let count := (h.extractLsb' 16 8).toNat
      (count ≠ body.length + 1 → decodeRecord l (h :: body) = .malformedRecord l kind) ∧
      (isRequestKind l kind = false → decodeRecord l (h :: body) = .malformedRecord l kind) ∧
      (∀ n : Nat, Spec.fixedWords l kind.toNat = some n →
        (decodeRecord l (h :: body) ≠ .malformedRecord l kind ↔ count = body.length + 1 ∧ count = n)) ∧
      (l = .control → kind = 0x03 →
        (decodeRecord l (h :: body) ≠ .malformedRecord l kind ↔ count = body.length + 1 ∧
          ∃ w rest, body = w :: rest ∧ count = 2 + 2 * (w.extractLsb' 16 8).toNat)) ∧
      (∀ r : Radio, l = .radio r → kind = 0x42 →
        (decodeRecord l (h :: body) ≠ .malformedRecord l kind ↔ count = body.length + 1 ∧
          ∃ w rest, body = w :: rest ∧ count = 3 + divUp (w.extractLsb' 16 7).toNat 16))

/-- Every answer is sent as the record of the tables of R182 to R188, every field in its place and every other
bit 0; the REPORT of the worked case of chapter 11, its TAKEN answer, its two refusals, and the deficit of
R189 read as they do there, word for word. -/
def Obligations.AnswerRecordsFollowLayouts : Prop :=
  (∀ a : Answer, a.words = Spec.answerRecord a) ∧
  decodeRecord (.radio .a) [0x42040000#32, 0x00040009#32, 0x00000173#32, 0x00000065#32] =
    .report .a 9 371 0 [1, 1, 2, 1] ∧
  (Answer.taken 0x42 9).words = [0xC3020000#32, 0x42000009#32] ∧
  (Answer.refused 0x42 .malformed).words = [0xC4021F00#32, 0x42000000#32] ∧
  (Answer.refused 0x42 .stale).words = [0xC4022100#32, 0x42000000#32] ∧
  deficitField (-161) = 0xFF5F#16
end

