-- ==== Sys2Proof/Laws/State.lean ====
section
/-! SUPPORT. What every named update of the state leaves and what it writes: one lemma per field per update,
so that no proof unfolds a record update. -/

namespace Sys2Proof.Machine

/-! ### Reading back a written record -/

@[simp] theorem State.station_setStation_self (s : State) (i : StationIndex) (st : Station) :
    (s.setStation i st).station i = st := by simp [State.setStation, State.station]

theorem State.station_setStation_ne (s : State) {i j : StationIndex} (st : Station) (h : i ≠ j) :
    (s.setStation i st).station j = s.station j := by
  have h' : i.val ≠ j.val := fun e => h (Fin.ext e)
  simp [State.setStation, State.station, h']

theorem State.station_setStation (s : State) (i j : StationIndex) (st : Station) :
    (s.setStation i st).station j = if i = j then st else s.station j := by
  by_cases h : i = j
  · subst h; simp
  · simp [h, State.station_setStation_ne s st h]

@[simp] theorem State.radio_setRadio_self (s : State) (r : Radio) (u : RadioUnit) :
    (s.setRadio r u).radio r = u := by cases r <;> rfl

theorem State.radio_setRadio_ne (s : State) {r q : Radio} (u : RadioUnit) (h : r ≠ q) :
    (s.setRadio r u).radio q = s.radio q := by cases r <;> cases q <;> first | rfl | exact absurd rfl h

theorem State.radio_setRadio (s : State) (r q : Radio) (u : RadioUnit) :
    (s.setRadio r u).radio q = if r = q then u else s.radio q := by
  cases r <;> cases q <;> rfl

@[simp] theorem State.setStation_setStation (s : State) (i : StationIndex) (st st' : Station) :
    (s.setStation i st).setStation i st' = s.setStation i st' := by
  simp [State.setStation]

@[simp] theorem State.setRadio_setRadio (s : State) (r : Radio) (u u' : RadioUnit) :
    (s.setRadio r u).setRadio r u' = s.setRadio r u' := by cases r <;> rfl

@[simp] theorem State.setRadio_radio (s : State) (r : Radio) : s.setRadio r (s.radio r) = s := by
  cases r <;> rfl

@[simp] theorem State.setStation_station (s : State) (i : StationIndex) :
    s.setStation i (s.station i) = s := by
  simp [State.setStation, State.station]

theorem State.setStation_setRadio (s : State) (i : StationIndex) (st : Station) (r : Radio)
    (u : RadioUnit) : (s.setStation i st).setRadio r u = (s.setRadio r u).setStation i st := by
  cases r <;> rfl

@[simp] theorem State.port_setPort_self (s : State) (l : Link) (p : Port) :
    (s.setPort l p).port l = p := by
  cases l with
  | control => rfl
  | radio r => cases r <;> rfl

theorem State.port_setPort_ne (s : State) {l k : Link} (p : Port) (h : l ≠ k) :
    (s.setPort l p).port k = s.port k := by
  cases l with
  | control =>
    cases k with
    | control => exact absurd rfl h
    | radio q => cases q <;> rfl
  | radio r =>
    cases k with
    | control => cases r <;> rfl
    | radio q => cases r <;> cases q <;> first | rfl | exact absurd rfl h

/-! ### `setStation` -/

@[simp] theorem State.setStation_scanCursor (s : State) (i : StationIndex) (st : Station) :
    (s.setStation i st).scanCursor = s.scanCursor := rfl

@[simp] theorem State.setStation_releaseList (s : State) (i : StationIndex) (st : Station) :
    (s.setStation i st).releaseList = s.releaseList := rfl

@[simp] theorem State.setStation_msClock (s : State) (i : StationIndex) (st : Station) :
    (s.setStation i st).msClock = s.msClock := rfl

@[simp] theorem State.setStation_msPhase (s : State) (i : StationIndex) (st : Station) :
    (s.setStation i st).msPhase = s.msPhase := rfl

@[simp] theorem State.setStation_profile (s : State) (i : StationIndex) (st : Station) :
    (s.setStation i st).profile = s.profile := rfl

@[simp] theorem State.setStation_stack (s : State) (i : StationIndex) (st : Station) :
    (s.setStation i st).stack = s.stack := rfl

@[simp] theorem State.setStation_radioA (s : State) (i : StationIndex) (st : Station) :
    (s.setStation i st).radioA = s.radioA := rfl

@[simp] theorem State.setStation_radioB (s : State) (i : StationIndex) (st : Station) :
    (s.setStation i st).radioB = s.radioB := rfl

@[simp] theorem State.setStation_device (s : State) (i : StationIndex) (st : Station) :
    (s.setStation i st).device = s.device := rfl

@[simp] theorem State.setStation_raw (s : State) (i : StationIndex) (st : Station) :
    (s.setStation i st).raw = s.raw := rfl

@[simp] theorem State.setStation_enabled (s : State) (i : StationIndex) (st : Station) :
    (s.setStation i st).enabled = s.enabled := rfl

@[simp] theorem State.setStation_control (s : State) (i : StationIndex) (st : Station) :
    (s.setStation i st).control = s.control := rfl

@[simp] theorem State.setStation_resetAnswerDue (s : State) (i : StationIndex) (st : Station) :
    (s.setStation i st).resetAnswerDue = s.resetAnswerDue := rfl

@[simp] theorem State.setStation_resetInput (s : State) (i : StationIndex) (st : Station) :
    (s.setStation i st).resetInput = s.resetInput := rfl

@[simp] theorem State.setStation_freezeInput (s : State) (i : StationIndex) (st : Station) :
    (s.setStation i st).freezeInput = s.freezeInput := rfl

@[simp] theorem State.setStation_choices (s : State) (i : StationIndex) (st : Station) :
    (s.setStation i st).choices = s.choices := rfl

@[simp] theorem State.setStation_pending (s : State) (i : StationIndex) (st : Station) :
    (s.setStation i st).pending = s.pending := rfl

@[simp] theorem State.setStation_radio (s : State) (i : StationIndex) (st : Station) (r : Radio) :
    (s.setStation i st).radio r = s.radio r := by cases r <;> rfl

@[simp] theorem State.setStation_port (s : State) (i : StationIndex) (st : Station) (l : Link) :
    (s.setStation i st).port l = s.port l := by
  cases l with
  | control => rfl
  | radio r => cases r <;> rfl

@[simp] theorem State.setStation_group (s : State) (i : StationIndex) (st : Station) (g : GroupIndex) :
    (s.setStation i st).group g = s.group g := rfl

/-! ### `setRadio` -/

@[simp] theorem State.setRadio_stations (s : State) (r : Radio) (u : RadioUnit) :
    (s.setRadio r u).stations = s.stations := by cases r <;> rfl

@[simp] theorem State.setRadio_scanCursor (s : State) (r : Radio) (u : RadioUnit) :
    (s.setRadio r u).scanCursor = s.scanCursor := by cases r <;> rfl

@[simp] theorem State.setRadio_releaseList (s : State) (r : Radio) (u : RadioUnit) :
    (s.setRadio r u).releaseList = s.releaseList := by cases r <;> rfl

@[simp] theorem State.setRadio_msClock (s : State) (r : Radio) (u : RadioUnit) :
    (s.setRadio r u).msClock = s.msClock := by cases r <;> rfl

@[simp] theorem State.setRadio_msPhase (s : State) (r : Radio) (u : RadioUnit) :
    (s.setRadio r u).msPhase = s.msPhase := by cases r <;> rfl

@[simp] theorem State.setRadio_profile (s : State) (r : Radio) (u : RadioUnit) :
    (s.setRadio r u).profile = s.profile := by cases r <;> rfl

@[simp] theorem State.setRadio_stack (s : State) (r : Radio) (u : RadioUnit) :
    (s.setRadio r u).stack = s.stack := by cases r <;> rfl

@[simp] theorem State.setRadio_device (s : State) (r : Radio) (u : RadioUnit) :
    (s.setRadio r u).device = s.device := by cases r <;> rfl

@[simp] theorem State.setRadio_raw (s : State) (r : Radio) (u : RadioUnit) :
    (s.setRadio r u).raw = s.raw := by cases r <;> rfl

@[simp] theorem State.setRadio_enabled (s : State) (r : Radio) (u : RadioUnit) :
    (s.setRadio r u).enabled = s.enabled := by cases r <;> rfl

@[simp] theorem State.setRadio_control (s : State) (r : Radio) (u : RadioUnit) :
    (s.setRadio r u).control = s.control := by cases r <;> rfl

@[simp] theorem State.setRadio_resetAnswerDue (s : State) (r : Radio) (u : RadioUnit) :
    (s.setRadio r u).resetAnswerDue = s.resetAnswerDue := by cases r <;> rfl

@[simp] theorem State.setRadio_resetInput (s : State) (r : Radio) (u : RadioUnit) :
    (s.setRadio r u).resetInput = s.resetInput := by cases r <;> rfl

@[simp] theorem State.setRadio_freezeInput (s : State) (r : Radio) (u : RadioUnit) :
    (s.setRadio r u).freezeInput = s.freezeInput := by cases r <;> rfl

@[simp] theorem State.setRadio_choices (s : State) (r : Radio) (u : RadioUnit) :
    (s.setRadio r u).choices = s.choices := by cases r <;> rfl

@[simp] theorem State.setRadio_pending (s : State) (r : Radio) (u : RadioUnit) :
    (s.setRadio r u).pending = s.pending := by cases r <;> rfl

@[simp] theorem State.setRadio_station (s : State) (r : Radio) (u : RadioUnit) (i : StationIndex) :
    (s.setRadio r u).station i = s.station i := by cases r <;> rfl

@[simp] theorem State.setRadio_group (s : State) (r : Radio) (u : RadioUnit) (g : GroupIndex) :
    (s.setRadio r u).group g = s.group g := by cases r <;> rfl

/-! ### `raise` and `raiseIf` -/

@[simp] theorem State.raise_stations (s : State) (k : EventKind) :
    (s.raise k).stations = s.stations := rfl

@[simp] theorem State.raiseIf_stations (s : State) (c : Prop) [Decidable c] (k : EventKind) :
    (s.raiseIf c k).stations = s.stations := by
  unfold State.raiseIf; split <;> rfl

@[simp] theorem State.raise_scanCursor (s : State) (k : EventKind) :
    (s.raise k).scanCursor = s.scanCursor := rfl

@[simp] theorem State.raiseIf_scanCursor (s : State) (c : Prop) [Decidable c] (k : EventKind) :
    (s.raiseIf c k).scanCursor = s.scanCursor := by
  unfold State.raiseIf; split <;> rfl

@[simp] theorem State.raise_releaseList (s : State) (k : EventKind) :
    (s.raise k).releaseList = s.releaseList := rfl

@[simp] theorem State.raiseIf_releaseList (s : State) (c : Prop) [Decidable c] (k : EventKind) :
    (s.raiseIf c k).releaseList = s.releaseList := by
  unfold State.raiseIf; split <;> rfl

@[simp] theorem State.raise_msClock (s : State) (k : EventKind) :
    (s.raise k).msClock = s.msClock := rfl

@[simp] theorem State.raiseIf_msClock (s : State) (c : Prop) [Decidable c] (k : EventKind) :
    (s.raiseIf c k).msClock = s.msClock := by
  unfold State.raiseIf; split <;> rfl

@[simp] theorem State.raise_msPhase (s : State) (k : EventKind) :
    (s.raise k).msPhase = s.msPhase := rfl

@[simp] theorem State.raiseIf_msPhase (s : State) (c : Prop) [Decidable c] (k : EventKind) :
    (s.raiseIf c k).msPhase = s.msPhase := by
  unfold State.raiseIf; split <;> rfl

@[simp] theorem State.raise_profile (s : State) (k : EventKind) :
    (s.raise k).profile = s.profile := rfl

@[simp] theorem State.raiseIf_profile (s : State) (c : Prop) [Decidable c] (k : EventKind) :
    (s.raiseIf c k).profile = s.profile := by
  unfold State.raiseIf; split <;> rfl

@[simp] theorem State.raise_stack (s : State) (k : EventKind) :
    (s.raise k).stack = s.stack := rfl

@[simp] theorem State.raiseIf_stack (s : State) (c : Prop) [Decidable c] (k : EventKind) :
    (s.raiseIf c k).stack = s.stack := by
  unfold State.raiseIf; split <;> rfl

@[simp] theorem State.raise_radioA (s : State) (k : EventKind) :
    (s.raise k).radioA = s.radioA := rfl

@[simp] theorem State.raiseIf_radioA (s : State) (c : Prop) [Decidable c] (k : EventKind) :
    (s.raiseIf c k).radioA = s.radioA := by
  unfold State.raiseIf; split <;> rfl

@[simp] theorem State.raise_radioB (s : State) (k : EventKind) :
    (s.raise k).radioB = s.radioB := rfl

@[simp] theorem State.raiseIf_radioB (s : State) (c : Prop) [Decidable c] (k : EventKind) :
    (s.raiseIf c k).radioB = s.radioB := by
  unfold State.raiseIf; split <;> rfl

@[simp] theorem State.raise_device (s : State) (k : EventKind) :
    (s.raise k).device = s.device := rfl

@[simp] theorem State.raiseIf_device (s : State) (c : Prop) [Decidable c] (k : EventKind) :
    (s.raiseIf c k).device = s.device := by
  unfold State.raiseIf; split <;> rfl

@[simp] theorem State.raise_enabled (s : State) (k : EventKind) :
    (s.raise k).enabled = s.enabled := rfl

@[simp] theorem State.raiseIf_enabled (s : State) (c : Prop) [Decidable c] (k : EventKind) :
    (s.raiseIf c k).enabled = s.enabled := by
  unfold State.raiseIf; split <;> rfl

@[simp] theorem State.raise_control (s : State) (k : EventKind) :
    (s.raise k).control = s.control := rfl

@[simp] theorem State.raiseIf_control (s : State) (c : Prop) [Decidable c] (k : EventKind) :
    (s.raiseIf c k).control = s.control := by
  unfold State.raiseIf; split <;> rfl

@[simp] theorem State.raise_resetAnswerDue (s : State) (k : EventKind) :
    (s.raise k).resetAnswerDue = s.resetAnswerDue := rfl

@[simp] theorem State.raiseIf_resetAnswerDue (s : State) (c : Prop) [Decidable c] (k : EventKind) :
    (s.raiseIf c k).resetAnswerDue = s.resetAnswerDue := by
  unfold State.raiseIf; split <;> rfl

@[simp] theorem State.raise_resetInput (s : State) (k : EventKind) :
    (s.raise k).resetInput = s.resetInput := rfl

@[simp] theorem State.raiseIf_resetInput (s : State) (c : Prop) [Decidable c] (k : EventKind) :
    (s.raiseIf c k).resetInput = s.resetInput := by
  unfold State.raiseIf; split <;> rfl

@[simp] theorem State.raise_freezeInput (s : State) (k : EventKind) :
    (s.raise k).freezeInput = s.freezeInput := rfl

@[simp] theorem State.raiseIf_freezeInput (s : State) (c : Prop) [Decidable c] (k : EventKind) :
    (s.raiseIf c k).freezeInput = s.freezeInput := by
  unfold State.raiseIf; split <;> rfl

@[simp] theorem State.raise_choices (s : State) (k : EventKind) :
    (s.raise k).choices = s.choices := rfl

@[simp] theorem State.raiseIf_choices (s : State) (c : Prop) [Decidable c] (k : EventKind) :
    (s.raiseIf c k).choices = s.choices := by
  unfold State.raiseIf; split <;> rfl

@[simp] theorem State.raise_pending (s : State) (k : EventKind) :
    (s.raise k).pending = s.pending := rfl

@[simp] theorem State.raiseIf_pending (s : State) (c : Prop) [Decidable c] (k : EventKind) :
    (s.raiseIf c k).pending = s.pending := by
  unfold State.raiseIf; split <;> rfl

@[simp] theorem State.raise_raw (s : State) (k : EventKind) : (s.raise k).raw = s.raw ||| k.set := rfl

theorem State.raiseIf_raw (s : State) (c : Prop) [Decidable c] (k : EventKind) :
    (s.raiseIf c k).raw = if c then s.raw ||| k.set else s.raw := by
  unfold State.raiseIf; split <;> rfl

@[simp] theorem State.raise_station (s : State) (k : EventKind) (i : StationIndex) :
    (s.raise k).station i = s.station i := by
  rfl

@[simp] theorem State.raise_radio (s : State) (k : EventKind) (r : Radio) :
    (s.raise k).radio r = s.radio r := by
  cases r <;> rfl

@[simp] theorem State.raise_group (s : State) (k : EventKind) (g : GroupIndex) :
    (s.raise k).group g = s.group g := by
  rfl

@[simp] theorem State.raise_port (s : State) (k : EventKind) (l : Link) :
    (s.raise k).port l = s.port l := by
  cases l <;> rfl

@[simp] theorem State.raiseIf_station (s : State) (c : Prop) [Decidable c] (k : EventKind) (i : StationIndex) :
    (s.raiseIf c k).station i = s.station i := by
  unfold State.raiseIf; split <;> rfl

@[simp] theorem State.raiseIf_radio (s : State) (c : Prop) [Decidable c] (k : EventKind) (r : Radio) :
    (s.raiseIf c k).radio r = s.radio r := by
  unfold State.raiseIf; split <;> rfl

@[simp] theorem State.raiseIf_group (s : State) (c : Prop) [Decidable c] (k : EventKind) (g : GroupIndex) :
    (s.raiseIf c k).group g = s.group g := by
  unfold State.raiseIf; split <;> rfl

@[simp] theorem State.raiseIf_port (s : State) (c : Prop) [Decidable c] (k : EventKind) (l : Link) :
    (s.raiseIf c k).port l = s.port l := by
  unfold State.raiseIf; split <;> rfl

/-! ### `setRing` -/

@[simp] theorem State.setRing_stations (s : State) (r : Radio) (g : GroupIndex) (ring : List StationIndex) :
    (s.setRing r g ring).stations = s.stations := by simp [State.setRing]

@[simp] theorem State.setRing_scanCursor (s : State) (r : Radio) (g : GroupIndex) (ring : List StationIndex) :
    (s.setRing r g ring).scanCursor = s.scanCursor := by simp [State.setRing]

@[simp] theorem State.setRing_releaseList (s : State) (r : Radio) (g : GroupIndex) (ring : List StationIndex) :
    (s.setRing r g ring).releaseList = s.releaseList := by simp [State.setRing]

@[simp] theorem State.setRing_msClock (s : State) (r : Radio) (g : GroupIndex) (ring : List StationIndex) :
    (s.setRing r g ring).msClock = s.msClock := by simp [State.setRing]

@[simp] theorem State.setRing_msPhase (s : State) (r : Radio) (g : GroupIndex) (ring : List StationIndex) :
    (s.setRing r g ring).msPhase = s.msPhase := by simp [State.setRing]

@[simp] theorem State.setRing_profile (s : State) (r : Radio) (g : GroupIndex) (ring : List StationIndex) :
    (s.setRing r g ring).profile = s.profile := by simp [State.setRing]

@[simp] theorem State.setRing_stack (s : State) (r : Radio) (g : GroupIndex) (ring : List StationIndex) :
    (s.setRing r g ring).stack = s.stack := by simp [State.setRing]

@[simp] theorem State.setRing_device (s : State) (r : Radio) (g : GroupIndex) (ring : List StationIndex) :
    (s.setRing r g ring).device = s.device := by simp [State.setRing]

@[simp] theorem State.setRing_raw (s : State) (r : Radio) (g : GroupIndex) (ring : List StationIndex) :
    (s.setRing r g ring).raw = s.raw := by simp [State.setRing]

@[simp] theorem State.setRing_enabled (s : State) (r : Radio) (g : GroupIndex) (ring : List StationIndex) :
    (s.setRing r g ring).enabled = s.enabled := by simp [State.setRing]

@[simp] theorem State.setRing_control (s : State) (r : Radio) (g : GroupIndex) (ring : List StationIndex) :
    (s.setRing r g ring).control = s.control := by simp [State.setRing]

@[simp] theorem State.setRing_resetAnswerDue (s : State) (r : Radio) (g : GroupIndex) (ring : List StationIndex) :
    (s.setRing r g ring).resetAnswerDue = s.resetAnswerDue := by simp [State.setRing]

@[simp] theorem State.setRing_resetInput (s : State) (r : Radio) (g : GroupIndex) (ring : List StationIndex) :
    (s.setRing r g ring).resetInput = s.resetInput := by simp [State.setRing]

@[simp] theorem State.setRing_freezeInput (s : State) (r : Radio) (g : GroupIndex) (ring : List StationIndex) :
    (s.setRing r g ring).freezeInput = s.freezeInput := by simp [State.setRing]

@[simp] theorem State.setRing_choices (s : State) (r : Radio) (g : GroupIndex) (ring : List StationIndex) :
    (s.setRing r g ring).choices = s.choices := by simp [State.setRing]

@[simp] theorem State.setRing_pending (s : State) (r : Radio) (g : GroupIndex) (ring : List StationIndex) :
    (s.setRing r g ring).pending = s.pending := by simp [State.setRing]

@[simp] theorem State.setRing_station (s : State) (r : Radio) (g : GroupIndex) (ring : List StationIndex)
    (i : StationIndex) : (s.setRing r g ring).station i = s.station i := by simp [State.setRing]

@[simp] theorem State.setRing_radio_self (s : State) (r : Radio) (g : GroupIndex)
    (ring : List StationIndex) :
    (s.setRing r g ring).radio r = { s.radio r with rings := (s.radio r).rings.set g ring } := by
  simp [State.setRing]

theorem State.setRing_radio_ne (s : State) {r q : Radio} (g : GroupIndex) (ring : List StationIndex)
    (h : r ≠ q) : (s.setRing r g ring).radio q = s.radio q := State.radio_setRadio_ne s _ h

@[simp] theorem State.setRing_ring_self (s : State) (r : Radio) (g : GroupIndex)
    (ring : List StationIndex) : ((s.setRing r g ring).radio r).ring g = ring := by
  simp [RadioUnit.ring]

/-! ### `setPort` and `answer` -/

@[simp] theorem State.setPort_stations (s : State) (l : Link) (p : Port) :
    (s.setPort l p).stations = s.stations := by
  cases l <;> simp [State.setPort]

@[simp] theorem State.setPort_scanCursor (s : State) (l : Link) (p : Port) :
    (s.setPort l p).scanCursor = s.scanCursor := by
  cases l <;> simp [State.setPort]

@[simp] theorem State.setPort_releaseList (s : State) (l : Link) (p : Port) :
    (s.setPort l p).releaseList = s.releaseList := by
  cases l <;> simp [State.setPort]

@[simp] theorem State.setPort_msClock (s : State) (l : Link) (p : Port) :
    (s.setPort l p).msClock = s.msClock := by
  cases l <;> simp [State.setPort]

@[simp] theorem State.setPort_msPhase (s : State) (l : Link) (p : Port) :
    (s.setPort l p).msPhase = s.msPhase := by
  cases l <;> simp [State.setPort]

@[simp] theorem State.setPort_profile (s : State) (l : Link) (p : Port) :
    (s.setPort l p).profile = s.profile := by
  cases l <;> simp [State.setPort]

@[simp] theorem State.setPort_stack (s : State) (l : Link) (p : Port) :
    (s.setPort l p).stack = s.stack := by
  cases l <;> simp [State.setPort]

@[simp] theorem State.setPort_device (s : State) (l : Link) (p : Port) :
    (s.setPort l p).device = s.device := by
  cases l <;> simp [State.setPort]

@[simp] theorem State.setPort_raw (s : State) (l : Link) (p : Port) :
    (s.setPort l p).raw = s.raw := by
  cases l <;> simp [State.setPort]

@[simp] theorem State.setPort_enabled (s : State) (l : Link) (p : Port) :
    (s.setPort l p).enabled = s.enabled := by
  cases l <;> simp [State.setPort]

@[simp] theorem State.setPort_resetAnswerDue (s : State) (l : Link) (p : Port) :
    (s.setPort l p).resetAnswerDue = s.resetAnswerDue := by
  cases l <;> simp [State.setPort]

@[simp] theorem State.setPort_resetInput (s : State) (l : Link) (p : Port) :
    (s.setPort l p).resetInput = s.resetInput := by
  cases l <;> simp [State.setPort]

@[simp] theorem State.setPort_freezeInput (s : State) (l : Link) (p : Port) :
    (s.setPort l p).freezeInput = s.freezeInput := by
  cases l <;> simp [State.setPort]

@[simp] theorem State.setPort_choices (s : State) (l : Link) (p : Port) :
    (s.setPort l p).choices = s.choices := by
  cases l <;> simp [State.setPort]

@[simp] theorem State.setPort_pending (s : State) (l : Link) (p : Port) :
    (s.setPort l p).pending = s.pending := by
  cases l <;> simp [State.setPort]

@[simp] theorem State.setPort_station (s : State) (l : Link) (p : Port) (i : StationIndex) :
    (s.setPort l p).station i = s.station i := by
  simp only [State.station, State.setPort_stations]

@[simp] theorem State.answer_stations (s : State) (l : Link) (a : Answer) :
    (s.answer l a).stations = s.stations := by
  simp [State.answer]

@[simp] theorem State.answer_scanCursor (s : State) (l : Link) (a : Answer) :
    (s.answer l a).scanCursor = s.scanCursor := by
  simp [State.answer]

@[simp] theorem State.answer_releaseList (s : State) (l : Link) (a : Answer) :
    (s.answer l a).releaseList = s.releaseList := by
  simp [State.answer]

@[simp] theorem State.answer_msClock (s : State) (l : Link) (a : Answer) :
    (s.answer l a).msClock = s.msClock := by
  simp [State.answer]

@[simp] theorem State.answer_msPhase (s : State) (l : Link) (a : Answer) :
    (s.answer l a).msPhase = s.msPhase := by
  simp [State.answer]

@[simp] theorem State.answer_profile (s : State) (l : Link) (a : Answer) :
    (s.answer l a).profile = s.profile := by
  simp [State.answer]

@[simp] theorem State.answer_stack (s : State) (l : Link) (a : Answer) :
    (s.answer l a).stack = s.stack := by
  simp [State.answer]

@[simp] theorem State.answer_device (s : State) (l : Link) (a : Answer) :
    (s.answer l a).device = s.device := by
  simp [State.answer]

@[simp] theorem State.answer_raw (s : State) (l : Link) (a : Answer) :
    (s.answer l a).raw = s.raw := by
  simp [State.answer]

@[simp] theorem State.answer_enabled (s : State) (l : Link) (a : Answer) :
    (s.answer l a).enabled = s.enabled := by
  simp [State.answer]

@[simp] theorem State.answer_resetAnswerDue (s : State) (l : Link) (a : Answer) :
    (s.answer l a).resetAnswerDue = s.resetAnswerDue := by
  simp [State.answer]

@[simp] theorem State.answer_resetInput (s : State) (l : Link) (a : Answer) :
    (s.answer l a).resetInput = s.resetInput := by
  simp [State.answer]

@[simp] theorem State.answer_freezeInput (s : State) (l : Link) (a : Answer) :
    (s.answer l a).freezeInput = s.freezeInput := by
  simp [State.answer]

@[simp] theorem State.answer_choices (s : State) (l : Link) (a : Answer) :
    (s.answer l a).choices = s.choices := by
  simp [State.answer]

@[simp] theorem State.answer_pending (s : State) (l : Link) (a : Answer) :
    (s.answer l a).pending = s.pending := by
  simp [State.answer]

@[simp] theorem State.answer_station (s : State) (l : Link) (a : Answer) (i : StationIndex) :
    (s.answer l a).station i = s.station i := by
  simp only [State.station, State.answer_stations]

theorem State.setPort_radio (s : State) (l : Link) (p : Port) (r : Radio) :
    (s.setPort l p).radio r =
      if l = .radio r then { s.radio r with port := p } else s.radio r := by
  cases l with
  | control => cases r <;> rfl
  | radio q => cases q <;> cases r <;> rfl

@[simp] theorem State.answer_port_self (s : State) (l : Link) (a : Answer) :
    (s.answer l a).port l = { s.port l with answers := (s.port l).answers ++ [a] } := by
  simp [State.answer]

theorem State.answer_port_ne (s : State) {l k : Link} (a : Answer) (h : l ≠ k) :
    (s.answer l a).port k = s.port k := State.port_setPort_ne s _ h

/-! ### `setUsage` and `setBorrowed` -/

@[simp] theorem State.setUsage_stations (s : State) (r : Radio) (g : GroupIndex) (n : Nat) :
    (s.setUsage r g n).stations = s.stations := by
  simp [State.setUsage]

@[simp] theorem State.setUsage_scanCursor (s : State) (r : Radio) (g : GroupIndex) (n : Nat) :
    (s.setUsage r g n).scanCursor = s.scanCursor := by
  simp [State.setUsage]

@[simp] theorem State.setUsage_releaseList (s : State) (r : Radio) (g : GroupIndex) (n : Nat) :
    (s.setUsage r g n).releaseList = s.releaseList := by
  simp [State.setUsage]

@[simp] theorem State.setUsage_msClock (s : State) (r : Radio) (g : GroupIndex) (n : Nat) :
    (s.setUsage r g n).msClock = s.msClock := by
  simp [State.setUsage]

@[simp] theorem State.setUsage_msPhase (s : State) (r : Radio) (g : GroupIndex) (n : Nat) :
    (s.setUsage r g n).msPhase = s.msPhase := by
  simp [State.setUsage]

@[simp] theorem State.setUsage_profile (s : State) (r : Radio) (g : GroupIndex) (n : Nat) :
    (s.setUsage r g n).profile = s.profile := by
  simp [State.setUsage]

@[simp] theorem State.setUsage_stack (s : State) (r : Radio) (g : GroupIndex) (n : Nat) :
    (s.setUsage r g n).stack = s.stack := by
  simp [State.setUsage]

@[simp] theorem State.setUsage_device (s : State) (r : Radio) (g : GroupIndex) (n : Nat) :
    (s.setUsage r g n).device = s.device := by
  simp [State.setUsage]

@[simp] theorem State.setUsage_raw (s : State) (r : Radio) (g : GroupIndex) (n : Nat) :
    (s.setUsage r g n).raw = s.raw := by
  simp [State.setUsage]

@[simp] theorem State.setUsage_enabled (s : State) (r : Radio) (g : GroupIndex) (n : Nat) :
    (s.setUsage r g n).enabled = s.enabled := by
  simp [State.setUsage]

@[simp] theorem State.setUsage_control (s : State) (r : Radio) (g : GroupIndex) (n : Nat) :
    (s.setUsage r g n).control = s.control := by
  simp [State.setUsage]

@[simp] theorem State.setUsage_resetAnswerDue (s : State) (r : Radio) (g : GroupIndex) (n : Nat) :
    (s.setUsage r g n).resetAnswerDue = s.resetAnswerDue := by
  simp [State.setUsage]

@[simp] theorem State.setUsage_resetInput (s : State) (r : Radio) (g : GroupIndex) (n : Nat) :
    (s.setUsage r g n).resetInput = s.resetInput := by
  simp [State.setUsage]

@[simp] theorem State.setUsage_freezeInput (s : State) (r : Radio) (g : GroupIndex) (n : Nat) :
    (s.setUsage r g n).freezeInput = s.freezeInput := by
  simp [State.setUsage]

@[simp] theorem State.setUsage_choices (s : State) (r : Radio) (g : GroupIndex) (n : Nat) :
    (s.setUsage r g n).choices = s.choices := by
  simp [State.setUsage]

@[simp] theorem State.setUsage_pending (s : State) (r : Radio) (g : GroupIndex) (n : Nat) :
    (s.setUsage r g n).pending = s.pending := by
  simp [State.setUsage]

@[simp] theorem State.setUsage_station (s : State) (r : Radio) (g : GroupIndex) (n : Nat)
    (i : StationIndex) : (s.setUsage r g n).station i = s.station i := by simp [State.setUsage]

@[simp] theorem State.setBorrowed_stations (s : State) (r : Radio) (g : GroupIndex) (n : Nat) :
    (s.setBorrowed r g n).stations = s.stations := by
  simp [State.setBorrowed]

@[simp] theorem State.setBorrowed_scanCursor (s : State) (r : Radio) (g : GroupIndex) (n : Nat) :
    (s.setBorrowed r g n).scanCursor = s.scanCursor := by
  simp [State.setBorrowed]

@[simp] theorem State.setBorrowed_releaseList (s : State) (r : Radio) (g : GroupIndex) (n : Nat) :
    (s.setBorrowed r g n).releaseList = s.releaseList := by
  simp [State.setBorrowed]

@[simp] theorem State.setBorrowed_msClock (s : State) (r : Radio) (g : GroupIndex) (n : Nat) :
    (s.setBorrowed r g n).msClock = s.msClock := by
  simp [State.setBorrowed]

@[simp] theorem State.setBorrowed_msPhase (s : State) (r : Radio) (g : GroupIndex) (n : Nat) :
    (s.setBorrowed r g n).msPhase = s.msPhase := by
  simp [State.setBorrowed]

@[simp] theorem State.setBorrowed_profile (s : State) (r : Radio) (g : GroupIndex) (n : Nat) :
    (s.setBorrowed r g n).profile = s.profile := by
  simp [State.setBorrowed]

@[simp] theorem State.setBorrowed_stack (s : State) (r : Radio) (g : GroupIndex) (n : Nat) :
    (s.setBorrowed r g n).stack = s.stack := by
  simp [State.setBorrowed]

@[simp] theorem State.setBorrowed_device (s : State) (r : Radio) (g : GroupIndex) (n : Nat) :
    (s.setBorrowed r g n).device = s.device := by
  simp [State.setBorrowed]

@[simp] theorem State.setBorrowed_raw (s : State) (r : Radio) (g : GroupIndex) (n : Nat) :
    (s.setBorrowed r g n).raw = s.raw := by
  simp [State.setBorrowed]

@[simp] theorem State.setBorrowed_enabled (s : State) (r : Radio) (g : GroupIndex) (n : Nat) :
    (s.setBorrowed r g n).enabled = s.enabled := by
  simp [State.setBorrowed]

@[simp] theorem State.setBorrowed_control (s : State) (r : Radio) (g : GroupIndex) (n : Nat) :
    (s.setBorrowed r g n).control = s.control := by
  simp [State.setBorrowed]

@[simp] theorem State.setBorrowed_resetAnswerDue (s : State) (r : Radio) (g : GroupIndex) (n : Nat) :
    (s.setBorrowed r g n).resetAnswerDue = s.resetAnswerDue := by
  simp [State.setBorrowed]

@[simp] theorem State.setBorrowed_resetInput (s : State) (r : Radio) (g : GroupIndex) (n : Nat) :
    (s.setBorrowed r g n).resetInput = s.resetInput := by
  simp [State.setBorrowed]

@[simp] theorem State.setBorrowed_freezeInput (s : State) (r : Radio) (g : GroupIndex) (n : Nat) :
    (s.setBorrowed r g n).freezeInput = s.freezeInput := by
  simp [State.setBorrowed]

@[simp] theorem State.setBorrowed_choices (s : State) (r : Radio) (g : GroupIndex) (n : Nat) :
    (s.setBorrowed r g n).choices = s.choices := by
  simp [State.setBorrowed]

@[simp] theorem State.setBorrowed_pending (s : State) (r : Radio) (g : GroupIndex) (n : Nat) :
    (s.setBorrowed r g n).pending = s.pending := by
  simp [State.setBorrowed]

@[simp] theorem State.setBorrowed_station (s : State) (r : Radio) (g : GroupIndex) (n : Nat)
    (i : StationIndex) : (s.setBorrowed r g n).station i = s.station i := by simp [State.setBorrowed]

end Sys2Proof.Machine
end

