-- ==== Sys2Proof/Laws/Ops.lean ====
section
/-! SUPPORT. What each shared operation does, said once: a proof about a meaning cites these and does not
unfold the operation. -/

namespace Sys2Proof.Machine

/-! ### Fields of a request -/

/-- A station index field in range names its station. -/
theorem stationOf_eq {index : BitVec 16} {i : StationIndex} (h : index.toNat = i.val) :
    stationOf index = some i := by
  have hi : index.toNat < Config.stationCount := h ▸ i.isLt
  simp only [stationOf, hi, dite_true, Option.some.injEq]
  exact Fin.ext h

/-- A station index field above 511 names none. -/
theorem stationOf_none {index : BitVec 16} (h : Config.stationCount ≤ index.toNat) :
    stationOf index = none := by
  simp [stationOf, Nat.not_lt.mpr h]

/-- What a station index field names. -/
theorem stationOf_some {index : BitVec 16} {i : StationIndex} (h : stationOf index = some i) :
    index.toNat = i.val := by
  unfold stationOf at h
  split at h
  · exact congrArg Fin.val (Option.some.inj h)
  · exact absurd h (by simp)

/-- A group number field in range names its group. -/
theorem groupOf_eq {group : Byte} {g : GroupIndex} (h : group.toNat = g.val) :
    groupOf group = some g := by
  have hg : group.toNat < 4 := h ▸ g.isLt
  simp only [groupOf, hg, dite_true, Option.some.injEq]
  exact Fin.ext h

/-- A group number field above 3 names none. -/
theorem groupOf_none {group : Byte} (h : 4 ≤ group.toNat) : groupOf group = none := by
  simp [groupOf, Nat.not_lt.mpr h]

/-- A radio's code names the radio. -/
@[simp] theorem radioOf_radioCode (r : Radio) : radioOf (radioCode r) = some r := by
  cases r <;> rfl

/-- The clamp of R18, by cases. -/
theorem clampTo_eq {lo hi : Nat} (h : lo ≤ hi) (n : Nat) :
    clampTo lo hi n = if n < lo then lo else if hi < n then hi else n := by
  unfold clampTo
  split
  · omega
  · split <;> omega

/-! ### When a command is taken -/

theorem State.onControl_taken {s : State} (h : s.ignores .control = false) (t : State) :
    s.onControl t = .next t := by simp [State.onControl, h]

theorem State.onControl_ignored {s : State} (h : s.ignores .control = true) (t : State) :
    s.onControl t = .next s := by simp [State.onControl, h]

theorem State.onRadio_taken {s : State} {r : Radio} (h : s.ignores (.radio r) = false)
    (up : (s.radio r).linkUp = true) (kind : Byte) (t : State) : s.onRadio r kind t = .next t := by
  simp [State.onRadio, h, up]

theorem State.onRadio_down {s : State} {r : Radio} (h : s.ignores (.radio r) = false)
    (down : (s.radio r).linkUp = false) (kind : Byte) (t : State) :
    s.onRadio r kind t = .next (s.refuseRadio r kind .linkDown) := by
  simp [State.onRadio, h, down]

theorem State.onRadio_ignored {s : State} {r : Radio} (h : s.ignores (.radio r) = true) (kind : Byte)
    (t : State) : s.onRadio r kind t = .next s := by simp [State.onRadio, h]

theorem State.onExpiry_running {s : State} (h : s.timersStopped = false) (t : State) :
    s.onExpiry t = .next t := by simp [State.onExpiry, h]

theorem State.onExpiry_stopped {s : State} (h : s.timersStopped = true) (t : State) :
    s.onExpiry t = .next s := by simp [State.onExpiry, h]

theorem State.onStation_taken {s : State} {index : BitVec 16} {i : StationIndex}
    (h : index.toNat = i.val) (ok : (s.station i).actionable = true) (kind : Byte)
    (act : StationIndex → State) : s.onStation kind index act = act i := by
  simp [State.onStation, stationOf_eq h, ok]

/-! ### Retirements -/

/-- Retiring a run of slots appends it to the release list and reports RELEASE_READY if the run takes the
list from below the watermark to it (R59, R61). -/
theorem State.retireAll_eq (s : State) (ns : List Notice) :
    s.retireAll ns =
      State.raiseIf { s with releaseList := s.releaseList ++ ns }
        (s.releaseList.length < s.device.watermark ∧
          s.device.watermark ≤ s.releaseList.length + ns.length) .releaseReady := by
  induction ns generalizing s with
  | nil => simp [State.retireAll, State.raiseIf]
  | cons n ns ih =>
    have step : s.retireAll (n :: ns) = (s.retire n).retireAll ns := rfl
    rw [step, ih]
    simp only [State.retire, State.raiseIf_releaseList, State.raiseIf_device, List.append_assoc,
      List.singleton_append, List.length_append, List.length_cons, List.length_nil, Nat.zero_add]
    unfold State.raiseIf State.raise
    by_cases h1 : s.releaseList.length < s.device.watermark
    · by_cases h2 : s.device.watermark ≤ s.releaseList.length + 1
      · have h3 : s.device.watermark ≤ s.releaseList.length + (ns.length + 1) := by omega
        have h4 : ¬ (s.releaseList.length + 1 < s.device.watermark) := by omega
        simp [h1, h2, h3, h4]
      · have h4 : s.releaseList.length + 1 < s.device.watermark := by omega
        have e : s.releaseList.length + 1 + ns.length = s.releaseList.length + (ns.length + 1) := by
          omega
        simp [h1, h2, h4, e]
    · have h4 : ¬ (s.releaseList.length + 1 < s.device.watermark) := by omega
      simp [h1, h4]

theorem State.retireAll_releaseList (s : State) (ns : List Notice) :
    (s.retireAll ns).releaseList = s.releaseList ++ ns := by
  rw [State.retireAll_eq]; simp

@[simp] theorem State.retireAll_station (s : State) (ns : List Notice) (i : StationIndex) :
    (s.retireAll ns).station i = s.station i := by
  rw [State.retireAll_eq]; simp; rfl

@[simp] theorem State.retireAll_stations (s : State) (ns : List Notice) :
    (s.retireAll ns).stations = s.stations := by
  rw [State.retireAll_eq]; simp

@[simp] theorem State.retireAll_radio (s : State) (ns : List Notice) (r : Radio) :
    (s.retireAll ns).radio r = s.radio r := by
  rw [State.retireAll_eq]; simp; cases r <;> rfl

@[simp] theorem State.retireAll_device (s : State) (ns : List Notice) :
    (s.retireAll ns).device = s.device := by
  rw [State.retireAll_eq]; simp

@[simp] theorem State.retireAll_profile (s : State) (ns : List Notice) :
    (s.retireAll ns).profile = s.profile := by
  rw [State.retireAll_eq]; simp

@[simp] theorem State.retireAll_pending (s : State) (ns : List Notice) :
    (s.retireAll ns).pending = s.pending := by
  rw [State.retireAll_eq]; simp

/-! ### Slots (R44) -/

/-- Summing a list after one element is replaced. -/
theorem sum_map_set {α : Type} (f : α → Nat) (l : List α) (n : Nat) (a : α) (h : n < l.length) :
    ((l.set n a).map f).sum + f l[n] = (l.map f).sum + f a := by
  induction l generalizing n with
  | nil => exact absurd h (by simp)
  | cons b l ih =>
    cases n with
    | zero => simp; omega
    | succ n =>
      have := ih n (by simpa using h)
      simp only [List.set_cons_succ, List.map_cons, List.sum_cons, List.getElem_cons_succ]
      omega

/-- Writing a station's record changes the queued count by the change of its queue's length. -/
theorem State.queuedCount_setStation (s : State) (i : StationIndex) (st : Station) :
    (s.setStation i st).queuedCount + (s.station i).queue.length =
      s.queuedCount + st.queue.length := by
  have h := sum_map_set (fun st : Station => st.queue.length) s.stations.toList i.val st
    (by simp)
  have e : (s.setStation i st).stations.toList = s.stations.toList.set i.val st := by
    simp only [State.setStation, Vector.toList, Vector.set, Array.toList_set]
  unfold State.queuedCount
  rw [e]
  exact h

@[simp] theorem State.queuedCount_setRadio (s : State) (r : Radio) (u : RadioUnit) :
    (s.setRadio r u).queuedCount = s.queuedCount := by simp [State.queuedCount]

@[simp] theorem State.queuedCount_raise (s : State) (k : EventKind) :
    (s.raise k).queuedCount = s.queuedCount := rfl

@[simp] theorem State.queuedCount_answer (s : State) (l : Link) (a : Answer) :
    (s.answer l a).queuedCount = s.queuedCount := by simp [State.queuedCount]

@[simp] theorem State.queuedCount_retireAll (s : State) (ns : List Notice) :
    (s.retireAll ns).queuedCount = s.queuedCount := by simp [State.queuedCount]

/-- Writing a radio changes the lent count by the change of its grants' frames. -/
theorem State.lentCount_setRadio (s : State) (r : Radio) (u : RadioUnit) :
    (s.setRadio r u).lentCount + (s.radio r).lentCount = s.lentCount + u.lentCount := by
  cases r <;> simp only [State.lentCount, State.setRadio, State.radio] <;> omega

@[simp] theorem State.lentCount_setStation (s : State) (i : StationIndex) (st : Station) :
    (s.setStation i st).lentCount = s.lentCount := rfl

@[simp] theorem State.lentCount_raise (s : State) (k : EventKind) :
    (s.raise k).lentCount = s.lentCount := rfl

/-- The whole queue of a station retired with one reason. -/
theorem State.retireQueue_eq (s : State) (i : StationIndex) (reason : Reason) :
    s.retireQueue i reason =
      (s.setStation i { s.station i with queue := [] }).retireAll
        ((s.station i).queue.map fun slot => ⟨slot, reason⟩) := rfl

@[simp] theorem State.retireQueue_station_self (s : State) (i : StationIndex) (reason : Reason) :
    (s.retireQueue i reason).station i = { s.station i with queue := [] } := by
  simp [State.retireQueue]

@[simp] theorem State.retireQueue_releaseList (s : State) (i : StationIndex) (reason : Reason) :
    (s.retireQueue i reason).releaseList =
      s.releaseList ++ (s.station i).queue.map fun slot => ⟨slot, reason⟩ := by
  simp [State.retireQueue, State.retireAll_releaseList]

/-! ### Rings -/

/-- A station that leaves READY leaves its ring; the station records are as they were. -/
@[simp] theorem State.exitRing_station (s : State) (i j : StationIndex) :
    (s.exitRing i).station j = s.station j := by
  unfold State.exitRing State.leaveRing
  split
  · exact State.setRing_station ..
  · rfl

/-- A station that is not READY is in no ring, and nothing changes. -/
theorem State.exitRing_eq_self {s : State} {i : StationIndex} (h : (s.station i).state ≠ .ready) :
    s.exitRing i = s := by simp [State.exitRing, h]

/-- A READY station leaves the ring of its owner and group. -/
theorem State.exitRing_ready {s : State} {i : StationIndex} (h : (s.station i).state = .ready) :
    s.exitRing i = s.leaveRing (s.station i).owner (s.station i).group i := by
  simp [State.exitRing, h]

@[simp] theorem State.joinRing_station (s : State) (r : Radio) (g : GroupIndex) (i j : StationIndex) :
    (s.joinRing r g i).station j = s.station j := by simp [State.joinRing]

@[simp] theorem State.leaveRing_station (s : State) (r : Radio) (g : GroupIndex) (i j : StationIndex) :
    (s.leaveRing r g i).station j = s.station j := by simp [State.leaveRing]

@[simp] theorem State.joinRing_ring_self (s : State) (r : Radio) (g : GroupIndex) (i : StationIndex) :
    ((s.joinRing r g i).radio r).ring g = (s.radio r).ring g ++ [i] := by
  simp only [State.joinRing, State.setRing_ring_self]

@[simp] theorem State.leaveRing_ring_self (s : State) (r : Radio) (g : GroupIndex) (i : StationIndex) :
    ((s.leaveRing r g i).radio r).ring g = ((s.radio r).ring g).erase i := by
  simp only [State.leaveRing, State.setRing_ring_self]

/-- A station that enters READY has no hold, and the rest of its record is as it was. -/
@[simp] theorem State.enterReady_station_self (s : State) (i : StationIndex) :
    (s.enterReady i).station i = { s.station i with state := .ready, hold := none } := by
  simp [State.enterReady]

theorem State.enterReady_station_ne (s : State) {i j : StationIndex} (h : i ≠ j) :
    (s.enterReady i).station j = s.station j := by
  simp [State.enterReady, State.station_setStation_ne s _ h]

/-! ### Group counters (R13, R15, R16) -/

/-- Nothing but the counters of one radio and, at a crossing of a cap, the raw flags changes when a counter
is increased. -/
theorem State.chargeCounter_cases (s : State) (r : Radio) (g : GroupIndex) (pass : PassKind) (n : Nat) :
    (pass = .cap ∧ ∃ c : Bool, s.chargeCounter r g pass n =
      if c then (s.setUsage r g (min (s.usage r g + n) Config.counterMax)).raise .capReached
      else s.setUsage r g (min (s.usage r g + n) Config.counterMax)) ∨
    (pass = .borrow ∧ s.chargeCounter r g pass n =
      s.setBorrowed r g (min (s.borrowed r g + n) Config.counterMax)) := by
  cases pass with
  | cap =>
    refine .inl ⟨rfl, decide (s.usage r g < s.capOf r g ∧
      s.capOf r g ≤ min (s.usage r g + n) Config.counterMax), ?_⟩
    simp [State.chargeCounter, State.raiseIf]
  | borrow => exact .inr ⟨rfl, rfl⟩

@[simp] theorem State.chargeCounter_station (s : State) (r : Radio) (g : GroupIndex) (pass : PassKind)
    (n : Nat) (i : StationIndex) : (s.chargeCounter r g pass n).station i = s.station i := by
  cases pass <;> simp [State.chargeCounter]

@[simp] theorem State.refundCounter_station (s : State) (r : Radio) (g : GroupIndex) (pass : PassKind)
    (n : Nat) (i : StationIndex) : (s.refundCounter r g pass n).station i = s.station i := by
  cases pass <;> simp [State.refundCounter]

@[simp] theorem State.correctCounter_station (s : State) (r : Radio) (g : GroupIndex) (pass : PassKind)
    (actual est : Nat) (i : StationIndex) :
    (s.correctCounter r g pass actual est).station i = s.station i := by
  unfold State.correctCounter
  split <;> simp

/-! ### Head drops (R56) -/

/-- The drops are a run from the head and the kept slots are the rest of the queue. -/
theorem splitDrops_append (reason : Slot → Option Reason) (fs : List Slot) :
    (splitDrops reason fs).1.map (·.slot) ++ (splitDrops reason fs).2 = fs := by
  induction fs with
  | nil => rfl
  | cons f fs ih =>
    unfold splitDrops
    split
    · simpa using ih
    · rfl

/-- The kept slots begin with one that is not dropped. -/
theorem splitDrops_kept_head (reason : Slot → Option Reason) (fs : List Slot) (f : Slot)
    (rest : List Slot) (h : (splitDrops reason fs).2 = f :: rest) : reason f = none := by
  induction fs with
  | nil => exact absurd h (by simp [splitDrops])
  | cons a fs ih =>
    unfold splitDrops at h
    split at h
    · exact ih h
    · next hr =>
      obtain ⟨rfl, -⟩ := List.cons.inj h
      exact hr

/-- Each dropped slot carries the reason of its test. -/
theorem splitDrops_reason (reason : Slot → Option Reason) (fs : List Slot) (n : Notice)
    (h : n ∈ (splitDrops reason fs).1) : reason n.slot = some n.reason := by
  induction fs with
  | nil => exact absurd h (by simp [splitDrops])
  | cons a fs ih =>
    unfold splitDrops at h
    split at h
    · next why hr =>
      rcases List.mem_cons.mp h with rfl | h'
      · exact hr
      · exact ih h'
    · exact absurd h (by simp)

/-! ### The end of a grant (R25, R111) -/

/-- The hand-over of a dismiss-marked station frees it and reports STATION_FREED (R33). -/
theorem State.handOver_marked {s : State} {i : StationIndex} (h : (s.station i).dismissMark = true) :
    s.handOver i =
      (s.setStation i (Station.vacated { s.station i with grantTag := none })).raise .stationFreed := by
  simp [State.handOver, h, State.freeStation]

/-- The hand-over of a station without a dismiss mark applies a pending move and chooses the state. -/
theorem State.handOver_unmarked {s : State} {i : StationIndex} (h : (s.station i).dismissMark = false) :
    s.handOver i =
      ((s.setStation i { s.station i with grantTag := none }).applyPending i).chooseNext i := by
  simp [State.handOver, h]

/-- The fates under a mark retire every frame. -/
theorem returns_underMark_true (fates : List Fate) : returns (fates.map (Fate.underMark true)) = [] := by
  induction fates with
  | nil => rfl
  | cons f fs ih => cases f <;> simpa [returns, Fate.underMark] using ih

/-- Without a mark the fates stand. -/
theorem map_underMark_false (fates : List Fate) : fates.map (Fate.underMark false) = fates := by
  induction fates with
  | nil => rfl
  | cons f fs ih => cases f <;> simpa [Fate.underMark] using ih

/-- Every frame of an unsent grant survives. -/
theorem unsentFates_eq (g : Grant) : unsentFates g = g.frames.map Fate.survives := rfl

/-- The hand-over's move: none without a pending owner. -/
theorem State.applyPending_none {s : State} {i : StationIndex} (h : (s.station i).pendingOwner = none) :
    s.applyPending i = s := by simp [State.applyPending, h]

/-- The hand-over's move to the pending owner, with STEER_DONE (R147). -/
theorem State.applyPending_some {s : State} {i : StationIndex} {r : Radio}
    (h : (s.station i).pendingOwner = some r) :
    s.applyPending i = (s.setStation i (s.movedRecord i r)).raise .steerDone := by
  simp [State.applyPending, h]

/-- A station whose queue is empty goes IDLE at the hand-over. -/
theorem State.chooseNext_empty {s : State} {i : StationIndex} (h : (s.station i).queue = []) :
    s.chooseNext i = s.setStation i { s.station i with state := .idle } := by
  simp [State.chooseNext, h]

/-- A dozing station with frames goes DOZING at the hand-over. -/
theorem State.chooseNext_doze {s : State} {i : StationIndex} (h : (s.station i).queue ≠ [])
    (d : (s.station i).power = .doze) :
    s.chooseNext i = s.setStation i { s.station i with state := .dozing } := by
  simp [State.chooseNext, h, d]

/-- An awake station with frames goes READY at the hand-over. -/
theorem State.chooseNext_ready {s : State} {i : StationIndex} (h : (s.station i).queue ≠ [])
    (d : (s.station i).power = .awake) : s.chooseNext i = s.enterReady i := by
  simp [State.chooseNext, h, d]

/-- Under a dismiss mark a grant end returns no slot and retires every frame (R33). -/
theorem State.settleFrames_marked {s : State} {i : StationIndex} (fates : List Fate)
    (h : (s.station i).dismissMark = true) :
    s.settleFrames i fates = s.retireAll (retirements (fates.map (Fate.underMark true))) := by
  unfold State.settleFrames
  simp only [h, returns_underMark_true]
  exact congrArg (State.retireAll · _) (State.setStation_station s i)

/-- Without a dismiss mark a grant end returns the survivors to the queue's head and retires the rest. -/
theorem State.settleFrames_unmarked {s : State} {i : StationIndex} (fates : List Fate)
    (h : (s.station i).dismissMark = false) :
    s.settleFrames i fates =
      (s.setStation i { s.station i with queue := returns fates ++ (s.station i).queue }).retireAll
        (retirements fates) := by
  simp [State.settleFrames, h, map_underMark_false, State.returnSlots]

/-! ### Records the ports discard -/

/-- A discarded record sets one flag, or nothing where records on the link are ignored. -/
theorem State.discardRecord_cases (s : State) (l : Link) :
    (s.ignores l = true ∧ s.discardRecord l = s) ∨
      (s.ignores l = false ∧ s.discardRecord l = s.raise .malformed) := by
  cases h : s.ignores l <;> simp [State.discardRecord, State.raiseIf, h]

end Sys2Proof.Machine
end

