-- ==== Sys2Proof/Laws/Clock.lean ====
section
/-! SUPPORT. What discarding a port's untaken requests, a device reset and one cycle of the part's clock can
do, each said once. -/

namespace Sys2Proof.Machine

/-! ### Requests not yet taken -/

/-- With none held, what waits on is the waiting commands ahead of the link's next record to begin, without
the buffered records of the link, and all behind it. -/
theorem dropUntaken_eq (l : Link) (cs : List Instr) :
    dropUntaken l 0 cs =
      (cs.takeWhile (· ≠ .requestRecordBegins l)).filter (bufferedOn · ≠ some l) ++
        cs.dropWhile (· ≠ .requestRecordBegins l) := by
  induction cs with
  | nil => rfl
  | cons c cs ih =>
    unfold dropUntaken
    by_cases h : c = .requestRecordBegins l
    · simp [h]
    · by_cases b : bufferedOn c = some l <;> simp [h, b, ih]

/-- Discarding keeps the order of what waits on. -/
theorem dropUntaken_sublist (l : Link) (n : Nat) (cs : List Instr) :
    (dropUntaken l n cs).Sublist cs := by
  induction cs generalizing n with
  | nil => exact List.Sublist.slnil
  | cons c cs ih =>
    unfold dropUntaken
    split
    · exact List.Sublist.refl _
    · split
      · cases n with
        | zero => exact (ih 0).cons c
        | succ n => exact (ih n).cons_cons c
      · exact (ih n).cons_cons c

@[simp] theorem dropUntaken_nil (l : Link) (n : Nat) : dropUntaken l n [] = [] := rfl

/-- A link with no more waiting requests than are held loses none. -/
theorem dropUntaken_of_held {l : Link} {n : Nat} {cs : List Instr}
    (h : cs.countP (bufferedOn · = some l) ≤ n) : dropUntaken l n cs = cs := by
  induction cs generalizing n with
  | nil => rfl
  | cons c cs ih =>
    unfold dropUntaken
    split
    · rfl
    · by_cases b : bufferedOn c = some l
      · cases n with
        | zero => simp [b] at h
        | succ n => simp [b] at h; simp [b, ih (n := n) (by simpa using h)]
      · simp [b] at h; simp [b, ih (n := n) (by simpa using h)]

/-- A command that is no buffered record of the link goes on waiting. -/
theorem mem_dropUntaken {l : Link} {n : Nat} {c : Instr} {cs : List Instr} (h : c ∈ cs)
    (b : bufferedOn c ≠ some l) : c ∈ dropUntaken l n cs := by
  induction cs generalizing n with
  | nil => exact absurd h (by simp)
  | cons d cs ih =>
    unfold dropUntaken
    split
    · exact h
    · rcases List.mem_cons.mp h with rfl | h
      · simp [b]
      · split
        · cases n with
          | zero => exact ih h
          | succ n => exact List.mem_cons_of_mem _ (ih h)
        · exact List.mem_cons_of_mem _ (ih h)

@[simp] theorem State.discardUntaken_pending (s : State) (l : Link) (n : Nat) :
    (s.discardUntaken l n).pending = dropUntaken l n s.pending := rfl

@[simp] theorem State.discardUntaken_station (s : State) (n : Nat) (l : Link) (i : StationIndex) :
    (s.discardUntaken l n).station i = s.station i := rfl

@[simp] theorem State.discardUntaken_radio (s : State) (n : Nat) (l : Link) (r : Radio) :
    (s.discardUntaken l n).radio r = s.radio r := by cases r <;> rfl

@[simp] theorem State.discardUntaken_port (s : State) (n : Nat) (l k : Link) :
    (s.discardUntaken l n).port k = s.port k := by
  cases k with
  | control => rfl
  | radio r => cases r <;> rfl

@[simp] theorem State.discardUntaken_ignores (s : State) (n : Nat) (l k : Link) :
    (s.discardUntaken l n).ignores k = s.ignores k := by cases k <;> rfl

/-- A port emptied at link loss holds nothing. -/
@[simp] theorem State.emptyPort_port (s : State) (r : Radio) :
    (s.emptyPort r).port (.radio r) = .empty := by
  cases r <;> rfl

/-! ### Device reset -/

@[simp] theorem State.deviceReset_station (s : State) (i : StationIndex) :
    s.deviceReset.station i = State.reset.station i := rfl

@[simp] theorem State.deviceReset_radio (s : State) (r : Radio) :
    s.deviceReset.radio r = RadioUnit.reset := by cases r <;> rfl

@[simp] theorem State.deviceReset_control (s : State) : s.deviceReset.control = .empty := rfl

@[simp] theorem State.deviceReset_resetInput (s : State) :
    s.deviceReset.resetInput = s.resetInput := rfl

@[simp] theorem State.deviceReset_freezeInput (s : State) :
    s.deviceReset.freezeInput = s.freezeInput := rfl

/-! ### Counting -/

theorem lastCycle_iff (n : Nat) : lastCycle n = true ↔ n ≤ 1 := by simp [lastCycle]

/-- A running timer holds at least one cycle after a cycle of the clock (R177). -/
theorem one_le_countDown {n : Nat} (h : 1 ≤ n) : 1 ≤ countDown n := by
  unfold countDown lastCycle
  split <;> simp_all
  omega

theorem countDown_le (n : Nat) : countDown n ≤ n := by
  unfold countDown
  split <;> omega

theorem countUp_lt {limit n : Nat} (h : n < limit) : countUp limit n < limit := by
  unfold countUp
  split <;> omega

/-! ### Expiries in a free order -/

/-- The free order is an order of the same expiries. -/
theorem arrange_perm (n : Nat) (cs : List Instr) : (arrange n cs).Perm cs := by
  induction cs generalizing n with
  | nil => exact List.Perm.refl _
  | cons c cs ih =>
    cases cs with
    | nil => exact List.Perm.refl _
    | cons d cs =>
      have len : (arrange (n + 1) (d :: cs)).length = (d :: cs).length := (ih (n + 1)).length_eq
      have le : Config.expiryOrder n % ((d :: cs).length + 1) ≤ (arrange (n + 1) (d :: cs)).length := by
        rw [len]
        exact Nat.le_of_lt_succ (Nat.mod_lt _ (Nat.succ_pos _))
      exact (List.perm_insertIdx c _ le).trans ((ih (n + 1)).cons c)

@[simp] theorem arrange_nil (n : Nat) : arrange n [] = [] := rfl

@[simp] theorem takeAll_nil (s : State) : takeAll [] s = .next s := rfl

/-- What every command of a list keeps, taking the list keeps. -/
theorem takeAll_keeps {P : State → Prop} {cs : List Instr} {s t : State}
    (keeps : ∀ c ∈ cs, ∀ a b, P a → exec c a = .next b → P b) (h : P s)
    (e : takeAll cs s = .next t) : P t := by
  induction cs generalizing s with
  | nil => cases e; exact h
  | cons c cs ih =>
    unfold takeAll at e
    split at e
    · next a ha => exact ih (fun d hd => keeps d (List.mem_cons_of_mem _ hd)) (keeps c (by simp) _ _ h ha) e
    · exact absurd e (by simp)
    · exact absurd e (by simp)

/-- A cycle in which nothing expires only counts. -/
theorem State.tick_of_none_due {s : State} (h : s.due = []) : s.tick = .next s.counted := by
  have e : { s.counted with choices := s.choices } = s.counted := by
    unfold State.counted State.tickTimers State.tickWatches
    split
    · rfl
    · split <;> rfl
  simp [State.tick, h, e]

/-- What the counting and every command keep, a cycle keeps. -/
theorem State.tick_keeps {P : State → Prop} {s t : State}
    (counted : ∀ n, P { s.counted with choices := n })
    (keeps : ∀ c ∈ s.due, ∀ a b, P a → exec c a = .next b → P b) (e : s.tick = .next t) : P t :=
  takeAll_keeps (fun c hc => keeps c ((arrange_perm _ _).mem_iff.mp hc)) (counted _) e

/-- A part held in device reset stays as it is through a cycle (R168). -/
theorem State.tick_held {s : State} (h : s.resetInput = false) : s.tick = .next s := by
  have d : s.due = [] := by simp [State.due, h]
  rw [State.tick_of_none_due d]
  simp [State.counted, h]

/-- A record of a station after a cycle. -/
theorem State.tickTimers_station (s : State) (i : StationIndex) :
    s.tickTimers.station i = (s.station i).tick := by
  simp [State.tickTimers, State.station, mapStations]

end Sys2Proof.Machine
end

