-- ==== Sys2Proof/Tests/Slice0.lean ====
section
/-! SUPPORT. Small tests, each with the place in spec/ its expected result comes from, and for every statement
with hypotheses a named theorem `witness_…` with a concrete state and operands that meet them together. -/

namespace Sys2Proof.Tests

open Machine

/- One theorem after the other: elaborated side by side, so many kernel evaluations ask for more threads than
the check's memory limit allows. -/
set_option Elab.async false

/-! ### Well-formed commands (R183) -/

theorem test_queue_of_126_entries_is_well_formed :
    (Instr.queue 0 (List.replicate 126 ⟨0, 1⟩)).wellFormed = true := by decide +kernel

theorem test_queue_of_127_entries_is_refused :
    (Instr.queue 0 (List.replicate 127 ⟨0, 1⟩)).wellFormed = false := by decide +kernel

theorem test_report_of_128_outcomes_is_refused :
    (Instr.report .a 0 0 0 (List.replicate 128 1)).wellFormed = false := by decide +kernel

/-! ### Records written out from the layouts of R184 to R187 -/

/-- ADMIT 17, SSID 2, owner A, pinned, role 220, weight 8, rate 1440. -/
theorem test_decode_admit :
    decodeRecord .control [0x01030000#32, 0x05020011#32, 0x05A008DC#32] =
      .admitStation 17 2 1 true 220 8 1440 := by decide

/-- QUEUE 64 with two entries, of 1500 and 0 bytes. -/
theorem test_decode_queue :
    decodeRecord .control
      [0x03060000#32, 0x00020040#32, 0xDEADBEEF#32, 0x000005DC#32, 7#32, 0#32] =
      .queue 64 [⟨0xDEADBEEF, 1500⟩, ⟨7, 0⟩] := by decide

/-- GROUP SET 2: every field another value. -/
theorem test_decode_group_set :
    decodeRecord .control
      [0x0C070000#32, 2#32, 0x140A8001#32, 0x00100705#32, 0x0FA00400#32, 0x012C01F4#32,
        0x01000028#32] =
      .groupSet 2
        { ssidSet := 0x8001, roleLow := 10, roleHigh := 20, selector := true, closed := false,
          borrow := true, retryLimit := 7, releaseCount := 16, quantum := 1024, ceiling := 4000,
          holdTime := 500, cap := 300, lifetime := 40, queueLimit := 256 } := by decide

/-- RADIO SET B: epoch 50,000 µs, H 60, P 40, timeout 20,000 µs, rate 60. -/
theorem test_decode_radio_set :
    decodeRecord .control [0x10050000#32, 2#32, 0x0000C350#32, 0x0028003C#32, 0x003C4E20#32] =
      .radioSet 2 ⟨50000, 60, 40, 20000, 60⟩ := by decide

/-- STEER 300 to B. -/
theorem test_decode_steer :
    decodeRecord .control [0x05020000#32, 0x0002012C#32] = .steer 300 2 := by decide

/-- DEVICE SET: reserve 512, watermark 64, settle 2000 ms, HALT. -/
theorem test_decode_device_set :
    decodeRecord .control [0x12030000#32, 0x00400200#32, 0x000207D0#32] =
      .deviceSet ⟨512, 64, 2000, 2⟩ := by decide

/-- EVENT CLEAR of MALFORMED and RELEASE_READY. -/
theorem test_decode_event_clear :
    decodeRecord .control [0x16020000#32, 0x00000201#32] = .eventClear 0x201 := by decide

/-- OFFER 400 µs on Radio Link B. -/
theorem test_decode_offer :
    decodeRecord (.radio .b) [0x41020000#32, 0x00000190#32] = .offer .b 400 := by decide

/-- NOTE 77, DOZE, rate 1200. -/
theorem test_decode_note :
    decodeRecord (.radio .a) [0x44030000#32, 0x0001004D#32, 0x000004B0#32] =
      .note .a 77 1 1200 := by decide

/-- A QUEUE on a radio link is no request of that link (R161). -/
theorem test_decode_queue_on_radio_link :
    decodeRecord (.radio .a) [0x03020000#32, 0#32] = .malformedRecord (.radio .a) 0x03 := by decide

/-- A GRANT of one frame: tag 12, BORROW, station 88, rate 1440, E 146, B 400. -/
theorem test_grant_words :
    (Answer.grant ⟨12, 88, .borrow, 2, [⟨0xCAFE, 1500, 88, 0, 0⟩], 146, 400, 1440, 0⟩).words =
      [0xC1060000#32, 0x0001010C#32, 0x05A00058#32, 0x01900092#32, 0x0000CAFE#32,
        0x000005DC#32] := by decide

/-- QUEUE outcomes ACCEPTED, BAD_LENGTH, ACCEPTED, POOL_PRESSURE with queue length 61 (3.3). -/
theorem test_queue_answer_words :
    (Answer.control 0x03 .done (.queueOutcomes 64 61 [.done, .badLength, .done, .poolPressure])).words =
      [0x83030000#32, 0x003D0040#32, 0x18001100#32] := by decide

/-! ### Airtime (the tables of chapter 1) -/

theorem test_frame_times_of_the_table :
    [(1, 0, 24000), (1500, 40, 1440), (600, 40, 1440), (1500, 40, 60), (1500, 40, 10000),
      (8191, 255, 10)].map (fun x => frameTime ⟨0, 60, x.2.1, 0, 60⟩ x.2.2 x.1) =
      [1, 1369, 569, 32854, 198, 1081088] := by decide

theorem test_estimates_of_the_worked_case :
    [1369, 2738, 4107, 4676, 6045].map (estimate RadioSettings.default) =
      [146, 232, 317, 353, 438] := by decide

theorem test_effective_quanta_of_the_table :
    [(64, 1), (1024, 1), (1024, 3), (1024, 8), (1000, 3), (1000, 5), (4096, 32)].map
      (fun x => effectiveQuantum x.1 x.2) = [8, 128, 384, 1024, 375, 625, 16384] := by decide

theorem test_rollovers_of_the_worked_cases :
    [carried 15230 15000, carried 50000 15000, carried 14000 15000, carried 15230 5000] =
      [230, 32767, 0, 10230] := by decide

/-- Frame selection with drops in passing (5.4): m3, m4 and m5 join m1, m2 is dropped, m6 ends it. -/
theorem test_selection_of_the_worked_case :
    let slot (h : Word) (len : Nat) (stamp : BitVec 32) : Slot := ⟨h, len, 17, stamp, 0⟩
    let sel := selectFrames (fun f => if slotExpired 2000 40 f then some .expired else none)
      (fun f => frameTime .default 1440 f.length) (fun sum => estimate .default sum ≤ 400) 1 1369
      [slot 2 1500 1950, slot 3 600 1995, slot 4 1500 1996, slot 5 1500 1997, slot 6 1500 1998,
        slot 7 600 1999]
    (sel.taken.map (·.handle), sel.drops.map (·.slot.handle), sel.kept.map (·.handle), sel.sum) =
      ([3, 4, 5], [2], [6, 7], 4676) := by decide

/-- The age is taken modulo 2^32 (R55): stamped 4,294,967,290 and tested at 5, a slot is 11 ms old. -/
theorem test_age_across_the_wrap :
    (slotExpired 5 11 ⟨0, 1, 0, 4294967290, 0⟩, slotExpired 5 12 ⟨0, 1, 0, 4294967290, 0⟩) =
      (true, false) := by decide

/-- The fates of the partial aggregate on Radio B (6.3): retry limit 7. -/
theorem test_fates_of_the_worked_case :
    let slot (h : Word) (retry : Nat) : Slot := ⟨h, 100, 230, 0, retry⟩
    let fates := List.zipWith (frameFate 7) [slot 1 0, slot 2 6, slot 3 2, slot 4 0, slot 5 3]
      [.delivered, .failed, .failed, .unsent, .delivered]
    ((retirements fates).map (fun n => (n.slot.handle, n.slot.retry, n.reason)),
      (returns fates).map (fun f => (f.handle, f.retry))) =
      ([(1, 0, .delivered), (2, 7, .retryLimit), (5, 3, .delivered)], [(3, 3), (4, 0)]) := by decide

/-- A hold of 500 µs is 100,000 cycles and reads 500 µs until its last cycle of each µs is up (R177). -/
theorem test_remaining_time_rounds_up :
    [cyclesToUs 100000, cyclesToUs 99801, cyclesToUs 99800, cyclesToUs 1, cyclesToUs 0] =
      [500, 500, 499, 1, 0] := by decide

/-! ### Commands from reset -/

/-- The station and the next answer code of the Control Link after a command. -/
def after (c : Instr) (s : State) (i : StationIndex) : Option (Station × Option Answer) :=
  match exec c s with
  | .next t => some (t.station i, t.control.answers.getLast?)
  | _ => none

/-- After a device reset ADMIT assigns group 3 (R29) and weight 0 is written as 1 (R18). -/
theorem test_admit_from_reset :
    after (.admitStation 0 0 1 false 7 0 0) State.reset 0 =
      some ({ Station.vacant with state := .idle, group := 3, role := 7, weight := 1 },
        some (.control 0x01 .doneAdjusted (.stationGroup 0 3))) := by decide +kernel

/-- An owner field of 0 names no radio (R187). -/
theorem test_admit_of_no_radio :
    (after (.admitStation 0 0 0 false 7 8 0) State.reset 0).map (·.2) =
      some (some (.control 0x01 .range .empty)) := by decide +kernel

/-- A QUEUE for a FREE station answers NO_STATION for every entry (R49). -/
theorem test_queue_of_free_station :
    (after (.queue 3 [⟨1, 100⟩, ⟨2, 0⟩]) State.reset 3).map (·.2) =
      some (some (.control 0x03 .done (.queueOutcomes 3 0 [.noStation, .noStation]))) := by
  decide +kernel

/-- A COLLECT of an empty list is DONE with no notices (R60). -/
theorem test_collect_of_empty_list :
    (after (.collect 32) State.reset 0).map (·.2) =
      some (some (.control 0x14 .done (.notices [] 0))) := by decide +kernel

/-- The snapshot of a station on Radio B with the settle window of R188's W2 and W5, word by word. -/
theorem test_snapshot_words :
    (Answer.control 0x0A .done (.snapshot
      { index := 310, state := .holding, group := 2, ssid := 3, role := 0xDC, owner := .b, pinned := true,
        power := .awake, weight := 8, rate := 1440, deficit := -161, pendingOwner := none,
        settleMs := some 2000, holdUs := some 1200, grantTag := none, dismissMark := false,
        queueLength := 3, airtimeTotal := 371, delivered := 3, dropped := 1 })).words =
      [0x8A090000#32, 0x04A20136#32, 0x0008DC63#32, 0xFF5F05A0#32, 0x04B00003#32, 0x000007D0#32,
        371#32, 3#32, 1#32] := by decide

/-! ### The states of the witnesses -/

/-- A slot of a station. -/
def slot (i : StationIndex) (h : Word) : Slot := ⟨h, 1500, i, 0, 0⟩

/-- A radio whose link is UP. -/
def upUnit : RadioUnit :=
  { RadioUnit.reset with
    linkUp := true, watch := some 0, epoch := ⟨true, 20000000, some 100000⟩ }

/-- A grant of one frame for station 3. -/
def grant3 : Grant := ⟨9, 3, .cap, 3, [slot 3 30], 353, 400, 1440, 4000000⟩

/-- A station of group 3 on radio A. -/
def member (state : StationState) (queue : List Slot) : Station :=
  { Station.vacant with state := state, group := 3, rate := 1440, queue := queue }

/-- The links are UP, and stations 0 to 4 are IDLE, HOLDING, READY, GRANTED and DOZING on radio A; station
5 is GRANTED with a dismiss mark and station 6 with a pending owner. -/
def busy : State :=
  ((((((({ State.reset with
          radioA := { upUnit with rings := #v[[], [], [], [2]], grants := [grant3] }
          radioB := upUnit }.setStation 0 (member .idle [])).setStation 1
      { member .holding [slot 1 10] with hold := some 100000 }).setStation 2
      (member .ready [slot 2 20, slot 2 21])).setStation 3
      { member .granted [] with grantTag := some 9, deficit := -353 }).setStation 4
      { member .dozing [slot 4 40] with power := .doze }).setStation 5
      { member .granted [] with grantTag := some 1, dismissMark := true }).setStation 6
      { member .granted [] with grantTag := some 2, pendingOwner := some .b })

/-- The part frozen. -/
def frozenState : State :=
  { State.reset with device := { DeviceSettings.default with freezeMode := .halt }, freezeInput := true }

/-- The part held in device reset. -/
def heldState : State := { State.reset with resetInput := false }

/-- Both links UP and nothing else. -/
def upState : State := { State.reset with radioA := upUnit, radioB := upUnit }

theorem witness_StepTakesFrontCommand :
    State.pending { State.reset with pending := [.deviceRead] } = .deviceRead :: [] := rfl

theorem witness_IdleStepCountsTimers : State.reset.pending = [] ∧ Spec.timersRun State.reset := by
  decide

theorem witness_TimersHeld_reset : heldState.pending = [] ∧ heldState.resetInput = false := by decide

theorem witness_TimersHeld_freeze :
    frozenState.pending = [] ∧ frozenState.resetInput = true ∧ Spec.freeze frozenState := by decide

theorem witness_TimersHeld_expiry :
    Spec.stoppable (.epochTimerExpiry .a) = true ∧ ¬ Spec.timersRun frozenState := by decide

theorem witness_FrameTimeIsCeiling :
    1 ≤ 8191 ∧ 8191 ≤ 8191 ∧ (RadioSettings.mk 0 60 255 0 60).frameOverhead ≤ 255 ∧ 10 ≤ 10 ∧
      10 ≤ 24000 := by decide

theorem witness_SelectionTakesLongestFit : 64 ≤ 64 := by decide

/-- Radio A's epoch is in its last cycle. -/
def lastEpoch : State :=
  { upState with radioA := { upUnit with epoch := ⟨true, 1, some 100000⟩ } }

theorem witness_EpochExpiryRollsOver :
    Spec.timersRun lastEpoch ∧ (lastEpoch.radio .a).epoch.running = true ∧
      (lastEpoch.radio .a).epoch.remaining ≤ 1 ∧ 1 < (lastEpoch.radio .b).epoch.remaining := by decide

/-- The Control Link takes requests: the hypothesis of every Control Link statement without others. -/
theorem witness_controlOpen : Spec.controlOpen State.reset := by decide

theorem witness_controlOpen_busy : Spec.controlOpen busy := by decide

theorem witness_Admit_range :
    512 ≤ (512 : BitVec 16).toNat ∧ 15 < (16 : Byte).toNat := by decide

theorem witness_Admit_busy :
    (511 : BitVec 16).toNat = (511 : StationIndex).val ∧ (0 : BitVec 16).toNat = (0 : StationIndex).val ∧
      (15 : Byte).toNat ≤ 15 ∧ (1 : BitVec 2) = radioCode .a ∧ (busy.station 0).state ≠ .free := by
  decide +kernel

theorem witness_Admit_fills :
    (State.reset.station 511).state = .free ∧ Spec.claims State.reset 3 15 7 ∧
      State.reset.profile[(3 : GroupIndex)].closed = false := by decide +kernel

/-- No group's selector matches where every selector is off. -/
def noSelector : State :=
  { State.reset with profile := #v[.default false, .default false, .default false, .default false] }

/-- The claiming group is closed. -/
def closedGroup : State :=
  { State.reset with
    profile := #v[{ GroupSettings.default true with closed := true }, .default false, .default false,
      .default true] }

theorem witness_Admit_noGroup :
    (noSelector.station 0).state = .free ∧
      ∀ g : GroupIndex, ¬ Spec.selects noSelector.profile[g] 0 7 := by decide +kernel

theorem witness_Admit_closed :
    (closedGroup.station 0).state = .free ∧ Spec.claims closedGroup 0 0 7 ∧
      closedGroup.profile[(0 : GroupIndex)].closed = true := by decide +kernel

theorem witness_Dismiss_states :
    (busy.station 7).state = .free ∧ (busy.station 2).state = .ready ∧
      (busy.station 3).state = .granted ∧ (busy.station 3).dismissMark = false ∧
      (busy.station 5).state = .granted ∧ (busy.station 5).dismissMark = true := by decide +kernel

/-- An admitted station without a dismiss mark, for TUNE, PIN, UNPIN and PURGE. -/
theorem witness_admitted :
    Spec.controlOpen busy ∧ (2 : BitVec 16).toNat = (2 : StationIndex).val ∧
      Spec.admitted (busy.station 2) ∧ (busy.station 2).state ≠ .granted ∧
      Spec.admitted (busy.station 3) ∧ (busy.station 3).state = .granted := by decide +kernel

theorem witness_PinAndUnpin_steering :
    Spec.admitted (busy.station 6) ∧ (busy.station 6).pendingOwner ≠ none ∧
      (busy.station 2).pendingOwner = none := by decide +kernel

/-- The selectors of group 1 claim the stations of group 3. -/
def rematching : State :=
  { busy with
    profile := #v[.default false, .default true, .default false, .default true] }

theorem witness_Rematch_moves :
    Spec.controlOpen rematching ∧ Spec.admitted (rematching.station 2) ∧
      (rematching.station 2).state = .ready ∧
      Spec.claims rematching 1 (rematching.station 2).ssid.toNat (rematching.station 2).role ∧
      rematching.profile[(1 : GroupIndex)].closed = false ∧ 1 ≠ (rematching.station 2).group ∧
      (rematching.station 0).state ≠ .ready ∧
      Spec.claims rematching 1 (rematching.station 0).ssid.toNat (rematching.station 0).role ∧
      Spec.admitted (rematching.station 0) ∧ 1 ≠ (rematching.station 0).group := by decide +kernel

theorem witness_Rematch_own :
    Spec.claims busy 3 (busy.station 2).ssid.toNat (busy.station 2).role ∧
      busy.profile[(3 : GroupIndex)].closed = false ∧ 3 = (busy.station 2).group := by decide +kernel

theorem witness_Rematch_refused :
    let none' : State := { busy with profile := noSelector.profile }
    let closed : State := { busy with profile := closedGroup.profile }
    Spec.admitted (none'.station 2) ∧
      (∀ g : GroupIndex, ¬ Spec.selects none'.profile[g] (none'.station 2).ssid.toNat
        (none'.station 2).role) ∧
      Spec.admitted (closed.station 2) ∧
      Spec.claims closed 0 (closed.station 2).ssid.toNat (closed.station 2).role ∧
      closed.profile[(0 : GroupIndex)].closed = true := by decide +kernel

theorem witness_StationRequestsRefused :
    (Instr.tune 0 8, (0x08 : Byte)) ∈ [(Instr.tune 0 8, (0x08 : Byte)), (.rematch 0, 0x09),
      (.pin 0, 0x06), (.unpin 0, 0x07), (.purge 0, 0x04)] ∧
      (busy.station 7).state = .free ∧ (busy.station 5).dismissMark = true := by decide +kernel

theorem witness_counts :
    8 < (9 : BitVec 4).toNat ∧ (8 : BitVec 4) ≠ 0 ∧ (8 : BitVec 4).toNat ≤ 8 ∧
      32 < (33 : Byte).toNat ∧ 1 ≤ (32 : Byte).toNat ∧ (32 : Byte).toNat ≤ 32 ∧
      4 ≤ (4 : Byte).toNat ∧ (3 : Byte).toNat = (3 : GroupIndex).val := by decide

theorem witness_CollectTakesOldest_pool : Safety.PoolBounded busy := by
  unfold Safety.PoolBounded; decide +kernel

theorem witness_QueueEvaluatesEntries :
    Spec.controlOpen busy ∧ 126 < (List.replicate 127 (QueueEntry.mk 0 1)).length ∧
      (List.replicate 17 (QueueEntry.mk 0 1)).length ≤ 126 ∧
      16 < (List.replicate 17 (QueueEntry.mk 0 1)).length ∧
      (List.replicate 16 (QueueEntry.mk 0 1)).length ≤ 16 ∧
      (511 : BitVec 16).toNat = (511 : StationIndex).val := by decide +kernel

theorem witness_ProfileStack :
    let full : State := { State.reset with stack := List.replicate 4 Profile.default }
    Spec.controlOpen full ∧ 4 ≤ full.stack.length ∧ State.reset.stack.length < 4 ∧
      State.reset.stack = [] ∧ full.stack = Profile.default :: List.replicate 3 Profile.default := by
  decide

theorem witness_radio_fields :
    (1 : BitVec 2) = radioCode .a ∧ (2 : BitVec 2) = radioCode .b ∧
      (2 : BitVec 2) = freezeModeCode .halt := by decide

theorem witness_Steer_states :
    ¬ Spec.admitted (busy.station 7) ∧ (busy.station 2).owner = .a ∧
      (busy.station 6).owner ≠ .b ∧ (busy.station 6).pendingOwner ≠ none ∧
      (busy.station 3).settle = none ∧ (busy.station 3).state = .granted ∧
      (busy.station 1).pinned = false ∧ (busy.station 1).settle = none ∧
      (busy.station 1).state = .holding ∧ (busy.station 4).state = .dozing ∧
      Spec.admitted (busy.station 4) := by decide +kernel

theorem witness_Steer_pinned :
    let s := busy.setStation 2 { member .ready [slot 2 20] with pinned := true }
    Spec.controlOpen s ∧ Spec.admitted (s.station 2) ∧ (s.station 2).pinned = true := by
  decide +kernel

theorem witness_Steer_tooSoon :
    let s := busy.setStation 0 { member .idle [] with settle := some 1 }
    Spec.admitted (s.station 0) ∧ (s.station 0).pinned = false ∧ (s.station 0).owner ≠ .b ∧
      (s.station 0).pendingOwner = none ∧ (s.station 0).settle ≠ none := by decide +kernel

/-- Station 1's hold, the settle window of station 0 and the millisecond are in their last cycle. -/
def lastCycles : State :=
  { (busy.setStation 1 { member .holding [slot 1 10] with hold := some 1 }).setStation 0
      { member .idle [] with settle := some 1 } with msPhase := 199999 }

theorem witness_TimersExpire :
    Spec.timersRun lastCycles ∧ (lastCycles.station 1).state = .holding ∧
      (lastCycles.station 1).hold = some 1 ∧ (lastCycles.station 0).settle = some 1 ∧
      199999 ≤ lastCycles.msPhase := by
  decide +kernel

theorem witness_TimersExpire_timeLeft :
    Spec.timersRun busy ∧ (busy.station 0).state ≠ .holding ∧ (busy.station 1).hold = some 100000 ∧
      (busy.station 1).settle = none ∧ busy.msPhase < 199999 := by decide +kernel

theorem witness_NoteChecksThenWrites :
    Spec.linkOpen busy .a ∧ Spec.linkOpen busy .b ∧ (busy.station 7).state = .free ∧
      (busy.station 2).owner ≠ .b ∧ (busy.station 2).owner = .a ∧ (busy.station 2).state = .ready ∧
      (busy.station 4).owner = .a ∧ (busy.station 4).state = .dozing := by decide +kernel

theorem witness_RawFlagsAreSticky :
    ∃ t, exec .freezeInputAsserted State.reset = .next t ∧
      (∀ kinds, Instr.freezeInputAsserted ≠ .eventClear kinds) ∧
      Instr.freezeInputAsserted ≠ .deviceReset ∧ Instr.freezeInputAsserted ≠ .resetInputLow :=
  ⟨_, rfl, by simp, by decide, by decide⟩

theorem witness_RequestsIgnored_doneDue :
    State.resetAnswerDue { State.reset with resetAnswerDue := true } = true ∧
      requestLink .eventRead = some .control := by decide

theorem witness_LinkClockLoss :
    let s : State := { upState with radioA := { upUnit with watch := some 19999 } }
    (s.radio .a).linkUp = true ∧ (s.radio .a).watch = some 19999 ∧
      (upState.radio .a).watch = some 0 ∧ (State.reset.radio .a).watch = none := by decide

theorem witness_RequestsIgnoredInReset :
    heldState.resetInput = false ∧ requestLink .deviceReset = some .control ∧
      requestLink (.linkStart .b) = some (.radio .b) := by decide

theorem witness_LinkStart :
    State.reset.resetInput = true ∧ (State.reset.radio .a).linkUp = false ∧ busy.resetInput = true ∧
      (busy.radio .a).linkUp = true := by decide

theorem witness_DownLinkRefuses :
    State.reset.resetInput = true ∧ (State.reset.radio .b).linkUp = false ∧
      Spec.upKind (.withdraw .b 9) = some (.b, 0x43) := by decide

theorem witness_MalformedRecords :
    1 ≤ (0x19 : Byte).toNat ∧ (0x19 : Byte).toNat ≤ 0x19 ∧ 0x19 < (0x1A : Byte).toNat ∧
      (State.reset.radio .a).linkUp = false ∧ 0x41 ≤ (0x44 : Byte).toNat ∧
      (0x44 : Byte).toNat ≤ 0x44 ∧ (0x40 : Byte).toNat < 0x41 ∧ (upState.radio .a).linkUp = true := by
  decide

theorem witness_BuffersClaimedAndFreed :
    let s : State :=
      { State.reset with control := ⟨4, [.control 0x13 .range .empty]⟩ }
    s.resetInput = true ∧ s.resetAnswerDue = false ∧ 4 ≤ (s.port .control).claimed ∧
      (s.port .control).answers = .control 0x13 .range .empty :: [] ∧
      (State.reset.port .control).claimed < 4 ∧ (State.reset.port .control).answers = [] := by
  decide

theorem witness_OfferPassesAtOnce :
    let frozen : State := { frozenState with radioA := upUnit }
    let full : State := { State.reset with radioA := { upUnit with grants := [grant3, grant3] } }
    Spec.linkOpen frozen .a ∧ (frozen.radio .a).marks = [] ∧ Spec.freeze frozen ∧
      Spec.linkOpen full .a ∧ (full.radio .a).marks = [] ∧ ¬ Spec.freeze full ∧
      2 ≤ (full.radio .a).grants.length ∧ Spec.linkOpen upState .a ∧
      (upState.radio .a).grants.length < 2 ∧
      ∀ g : GroupIndex, (upState.radio .a).rings[g] = [] := by decide

theorem witness_OfferFormsGrant :
    Spec.linkOpen busy .a ∧ ¬ Spec.freeze busy ∧ (busy.radio .a).grants.length < 2 ∧
      (∀ h : GroupIndex, h < 3 → (busy.radio .a).rings[h] = [] ∨
        busy.capOf .a h ≤ (busy.radio .a).usage[h]) ∧
      (busy.radio .a).rings[(3 : GroupIndex)] = 2 :: [] ∧
      (busy.radio .a).usage[(3 : GroupIndex)] < busy.capOf .a 3 ∧ (busy.station 2).group = 3 ∧
      (busy.station 2).queue = slot 2 20 :: [slot 2 21] ∧ 0 ≤ (busy.station 2).deficit ∧
      Spec.drop busy .a 2 (slot 2 20) = none ∧
      Spec.single busy .a 2 (slot 2 20) ≤ min (min (min (400 : BitVec 16).toNat 8000)
        busy.profile[(3 : GroupIndex)].ceiling)
        (busy.capOf .a 3 - (busy.radio .a).usage[(3 : GroupIndex)]) := by decide +kernel

/-- Group 3 is out of cap on Radio A. -/
def outOfCap : State :=
  { busy with radioA := { busy.radioA with usage := #v[0, 0, 0, 100000] } }

/-- The same, and it may not borrow. -/
def noBorrow : State :=
  { outOfCap with
    profile := #v[.default false, .default false, .default false,
      { GroupSettings.default true with borrow := false }] }

theorem witness_OfferFormsGrant_borrow :
    Spec.linkOpen outOfCap .a ∧ ¬ Spec.freeze outOfCap ∧ (outOfCap.radio .a).grants.length < 2 ∧
      outOfCap.profile[(3 : GroupIndex)].borrow = true ∧
      (∀ h : GroupIndex, (outOfCap.radio .a).rings[h] = [] ∨
        outOfCap.capOf .a h ≤ (outOfCap.radio .a).usage[h]) ∧
      (∀ h : GroupIndex, h < 3 → (outOfCap.radio .a).rings[h] = [] ∨
        outOfCap.profile[h].borrow = false) ∧
      (outOfCap.radio .a).rings[(3 : GroupIndex)] = 2 :: [] ∧ (outOfCap.station 2).group = 3 ∧
      (outOfCap.station 2).queue = slot 2 20 :: [slot 2 21] ∧ 0 ≤ (outOfCap.station 2).deficit ∧
      Spec.drop outOfCap .a 2 (slot 2 20) = none ∧
      Spec.single outOfCap .a 2 (slot 2 20) ≤
        min (min (400 : BitVec 16).toNat 8000) outOfCap.profile[(3 : GroupIndex)].ceiling := by
  decide +kernel

theorem witness_OfferPassesAtOnce_capped :
    Spec.linkOpen noBorrow .a ∧ (noBorrow.radio .a).marks = [] ∧ ¬ Spec.freeze noBorrow ∧
      (noBorrow.radio .a).grants.length < 2 ∧
      (∃ g : GroupIndex, (noBorrow.radio .a).rings[g] ≠ []) ∧
      ∀ g : GroupIndex, (noBorrow.radio .a).rings[g] ≠ [] →
        noBorrow.capOf .a g ≤ (noBorrow.radio .a).usage[g] ∧ noBorrow.profile[g].borrow = false := by
  decide +kernel

/-- The last answer on Radio Link A after a command, as a PASS reason or the kind of a grant's pass. -/
def passOn (c : Instr) (s : State) : Option (PassReason ⊕ PassKind) :=
  match exec c s with
  | .next t =>
    match (t.radio .a).port.answers.getLast? with
    | some (.pass reason) => some (.inl reason)
    | some (.grant g) => some (.inr g.pass)
    | _ => none
  | _ => none

/-- A group out of cap with borrow set grants in the borrow pass (R90). -/
theorem test_borrow_pass_grants : passOn (.offer .a 400) outOfCap = some (.inr .borrow) := by
  decide +kernel

/-- The walk of an OFFER on `busy`, before its first visit. -/
def walk0 : Walk := ⟨busy, 32, false, none⟩

/-- The same with station 2 below 0. -/
def walkDebt : Walk :=
  { walk0 with state := busy.setStation 2 { member .ready [slot 2 20] with deficit := -1 } }

/-- Station 2 alone in the rings, so far below 0 that 31 credits of 128 µs leave it there. -/
def deepDebt : State :=
  busy.setStation 2 { member .ready [slot 2 20] with deficit := -3969, weight := 1 }

theorem witness_PassReasonsHold_alone :
    Spec.linkOpen deepDebt .a ∧ ¬ Spec.freeze deepDebt ∧ (deepDebt.radio .a).grants.length < 2 ∧
      (deepDebt.radio .a).marks = [] ∧ (deepDebt.radio .a).rings[(3 : GroupIndex)] = [2] ∧
      (∀ h : GroupIndex, h ≠ 3 → (deepDebt.radio .a).rings[h] = []) ∧
      (deepDebt.radio .a).usage[(3 : GroupIndex)] < deepDebt.capOf .a 3 ∧
      (deepDebt.station 2).queue = slot 2 20 :: [] ∧ Spec.drop deepDebt .a 2 (slot 2 20) = none ∧
      (deepDebt.station 2).deficit + (31 * (1024 * 1 / 8) : Nat) < 0 ∧
      0 ≤ (busy.station 2).deficit ∧
      min (min (100 : BitVec 16).toNat 8000) busy.profile[(3 : GroupIndex)].ceiling <
        Spec.single busy .a 2 (slot 2 20) := by decide +kernel

/-- A PASS for each reason of a walk: a station credited 32 times, four empty rings, every group with a
ring out of cap and without borrow, a head frame above the offer (R100). -/
theorem witness_PassReasonsHold_each :
    (passOn (.offer .a 8000) deepDebt, passOn (.offer .a 8000) upState,
      passOn (.offer .a 8000) noBorrow, passOn (.offer .a 100) outOfCap) =
      (some (.inl .searchLimit), some (.inl .noBacklog), some (.inl .capped),
        some (.inl .tooShort)) := by decide +kernel

theorem witness_VisitWithoutGrant_passOver :
    (walk0.state.radio .a).rings[(3 : GroupIndex)] = 2 :: [] ∧
      (walk0.state.station 2).queue = ([] : List Notice).map (·.slot) ++ [slot 2 20, slot 2 21] ∧
      (∀ f ∈ ([slot 2 20, slot 2 21] : List Slot).head?, Spec.drop walk0.state .a 2 f = none) ∧
      walk0.state.budget .a 3 .cap 145 < Spec.single walk0.state .a 2 (slot 2 20) := by decide +kernel

theorem witness_VisitWithoutGrant_credit :
    (walkDebt.state.radio .a).rings[(3 : GroupIndex)] = 2 :: [] ∧
      (walkDebt.state.station 2).queue = ([] : List Notice).map (·.slot) ++ [slot 2 20] ∧
      (walkDebt.state.station 2).deficit < 0 := by decide +kernel

theorem witness_VisitWithoutGrant_empty :
    let s : State := { walk0.state with
      profile := #v[.default false, .default false, .default false,
        { GroupSettings.default true with ceiling := 145 }] }
    (s.radio .a).rings[(3 : GroupIndex)] = 2 :: [] ∧
      (s.station 2).queue =
        ([⟨slot 2 20, .oversize⟩, ⟨slot 2 21, .oversize⟩] : List Notice).map (·.slot) ++ [] ∧
      ∀ n ∈ ([⟨slot 2 20, .oversize⟩, ⟨slot 2 21, .oversize⟩] : List Notice),
        Spec.drop s .a 2 n.slot = some n.reason := by decide +kernel

/-- An OFFER of 400 µs on `busy` is answered by a grant. -/
theorem witness_OfferedGrantsAreBounded :
    (match exec (.offer .a 400) busy with
      | .next t => (t.radio .a).port.answers.map (fun
          | .grant g => [g.tag.toNat, g.frames.length, g.estimate, g.budget]
          | _ => [])
      | _ => []) = [[0, 2, 232, 400]] := by decide +kernel

/-- An OFFER of 100 µs on `busy` is answered PASS TOO_SHORT. -/
theorem witness_PassReasonsHold :
    (match exec (.offer .a 100) busy with
      | .next t => (t.radio .a).port.answers
      | _ => []) = [.pass .tooShort] := by decide +kernel

theorem witness_OfferFrame : ∃ t, Spec.linkOpen busy .a ∧ exec (.offer .a 400) busy = .next t :=
  ⟨_, by decide, rfl⟩

theorem witness_grant_of_tag :
    Spec.linkOpen busy .a ∧ Spec.timersRun busy ∧
      (busy.radio .a).grants.find? (fun g => g.tag = 9) = some grant3 ∧
      (busy.radio .a).grants.find? (fun g => g.tag = 8) = none := by decide +kernel

theorem witness_TimeoutEndsGrant :
    let s : State := { busy with radioA := { busy.radioA with grants := [{ grant3 with timer := 1 }] } }
    Spec.timersRun s ∧
      (s.radio .a).grants.find? (fun g => g.tag = 9) = some { grant3 with timer := 1 } ∧
      1 < grant3.timer := by decide +kernel

theorem witness_ReportSettlesGrant :
    [1, 1].length ≠ grant3.frames.length ∧ ([0] : List (BitVec 2)).length = grant3.frames.length ∧
      (0 : BitVec 2) ∈ [0] ∧
      ([2] : List (BitVec 2)) = [FrameOutcome.failed].map Spec.outcomeField ∧
      [FrameOutcome.failed].length = grant3.frames.length := by decide

theorem witness_EveryRequestAnsweredOnce :
    requestLink .eventRead = some .control ∧ Instr.eventRead ≠ .deviceReset ∧
      busy.ignores .control = false := by decide

theorem witness_OtherRadioKept :
    ∃ t, Spec.ofRadio .a (.requestClockEdge .a) = true ∧
      exec (.requestClockEdge .a) busy = .next t :=
  ⟨_, by decide, rfl⟩

/-- A coherent state with links UP, one admitted station and one command waiting. -/
def coherent : State :=
  { upState.setStation 0 (member .idle []) with pending := [.requestClockEdge .a] }

theorem coherent_station (i : StationIndex) :
    coherent.station i = if 0 = i then member .idle [] else Station.vacant := by
  have h : coherent.station i = (upState.setStation 0 (member .idle [])).station i := rfl
  rw [h, State.station_setStation]
  simp [upState, State.reset, State.station]

theorem coherent_station_cases (i : StationIndex) :
    coherent.station i = member .idle [] ∨ coherent.station i = Station.vacant := by
  rw [coherent_station]; split <;> simp

theorem coherent_radio (r : Radio) : coherent.radio r = upUnit := by cases r <;> rfl

theorem witness_RangesKept : Safety.SettingsInRange coherent ∧ Safety.CountersBounded coherent := by
  refine ⟨⟨?_, ?_, by decide, ?_, by constructor <;> decide⟩, ?_⟩
  · intro g
    fin_cases g <;> constructor <;> decide
  · intro p h
    exact absurd h (by simp [coherent, upState, State.reset, State.setStation])
  · intro r
    rw [coherent_radio]
    constructor <;> decide
  · intro r g
    unfold State.usage State.borrowed
    rw [coherent_radio]
    revert g
    decide

theorem witness_LinksAgreeKept : Safety.LinksAgree coherent := by
  refine ⟨?_, ?_, ?_⟩
  · intro r
    rw [coherent_radio]
    constructor <;> decide
  · intro l
    cases l with
    | control => decide
    | radio r => cases r <;> decide
  · intro h
    exact absurd h (by decide)

theorem witness_PoolBoundKept : Safety.PoolBounded coherent := by
  unfold Safety.PoolBounded; decide +kernel

theorem witness_CoherentKept : Safety.Coherent coherent := by
  have noGrants : ∀ r, (coherent.radio r).grants = [] := fun r => by rw [coherent_radio]; rfl
  have noRings : ∀ r g, (coherent.radio r).ring g = [] := fun r g => by
    rw [coherent_radio]; revert g; decide
  refine ⟨witness_RangesKept.1, witness_RangesKept.2, witness_LinksAgreeKept,
    witness_PoolBoundKept, ⟨?_, ?_, ?_⟩, ?_, ⟨?_, ?_⟩, ⟨?_, ?_⟩, ⟨?_, ?_, ?_, ?_, by decide, ?_⟩, ?_,
    ?_⟩
  · intro i f h
    rcases coherent_station_cases i with e | e <;> rw [e] at h <;> exact absurd h (by simp [member, Station.vacant])
  · intro r g h
    rw [noGrants] at h
    exact absurd h (by simp)
  · intro n h
    exact absurd h (by simp [coherent, upState, State.reset, State.setStation])
  · intro i
    rcases coherent_station_cases i with e | e <;> rw [e] <;>
      constructor <;> simp [member, Station.vacant, Safety.ShapeOfState, Station.vacated]
  · intro r g i
    rw [noRings]
    rcases coherent_station_cases i with e | e <;> rw [e] <;> simp [member, Station.vacant]
  · intro r g
    rw [noRings]
    simp
  · intro r g h
    rw [noGrants] at h
    exact absurd h (by simp)
  · intro i h
    rcases coherent_station_cases i with e | e <;> rw [e] at h <;>
      exact absurd h (by simp [member, Station.vacant])
  · intro i n h
    rcases coherent_station_cases i with e | e <;> rw [e] at h <;>
      exact absurd h (by simp [member, Station.vacant])
  · intro i n h
    rcases coherent_station_cases i with e | e <;> rw [e] at h <;>
      exact absurd h (by simp [member, Station.vacant])
  · intro r g h
    rw [noGrants] at h
    exact absurd h (by simp)
  · intro r
    rw [coherent_radio]
    refine ⟨by decide, ?_, by decide⟩
    intro n h
    have e : n = 100000 := (Option.some.inj h).symm
    subst e
    decide
  · intro r n h
    rw [coherent_radio] at h
    have e : n = 0 := (Option.some.inj h).symm
    subst e
    decide
  · intro h
    exact absurd h (by decide)
  · intro h
    exact absurd h (by decide)

theorem witness_CoherentKept_step : ∃ t, step coherent = .next t := ⟨_, rfl⟩

/-! ### Timers and the freeze (R132, R165, R169, R177) -/

/-- Commands taken one after the other from a state. -/
def run (cs : List Instr) (s : State) : Option State :=
  match takeAll cs s with
  | .next t => some t
  | _ => none

/-- A hold in its last cycle still reads 1 µs, in a freeze too, and its expiry is taken after the freeze
(R177). -/
theorem test_hold_reads_one_until_it_expires :
    let s := { lastCycles with device := { DeviceSettings.default with freezeMode := .halt } }
    ((run [.freezeInputAsserted, .holdTimerExpiry 1] s).map fun t => (t.snapshot 1).holdUs,
      (run [.freezeInputAsserted, .freezeInputReleased, .holdTimerExpiry 1] s).map fun t =>
        (t.station 1).state) =
      (some (some 1), some .ready) := by decide +kernel

/-- PURGE, then a QUEUE that starts another hold: the expiry of the first has no effect (R132). -/
theorem test_no_expiry_follows_a_cancelled_hold :
    ((run [.purge 1, .queue 1 [⟨7, 100⟩], .holdTimerExpiry 1] lastCycles).map fun t =>
      ((t.station 1).state, (t.station 1).hold)) = some (.holding, some 100000) := by decide +kernel

/-- A request still in a buffer when the link is lost is discarded unanswered; one whose record begins after
the loss is refused LINK_DOWN (R165, the worked case of 9.5). -/
theorem test_link_loss_discards_waiting_requests :
    let s : State :=
      { upState with
        radioA := { upUnit with watch := some 19999 },
        pending := [.offer .a 400, .eventRead, .requestRecordBegins (.radio .a), .offer .a 400] }
    ((run [.linkClockAbsent .a] s).map fun t => (t.pending, (t.radio .a).linkUp)) =
      some ([.eventRead, .requestRecordBegins (.radio .a), .offer .a 400], false) := by decide +kernel

/-- Requests behind DEVICE RESET on any link are discarded, and so is a Control Link record that begins
before DONE has been sent (R169). -/
theorem test_device_reset_discards_waiting_requests :
    let s : State :=
      { upState with pending := [.offer .a 400, .answerSent .control, .deviceRead, .linkStart .b] }
    ((run [.deviceReset] s).map fun t => t.pending,
      (run [.deviceReset, .requestRecordBegins .control]
        { upState with pending := [.requestRecordBegins .control, .deviceRead] }).map fun t =>
          (t.pending, t.control.claimed)) =
      (some [.answerSent .control], some ([.requestRecordBegins .control, .deviceRead], 0)) := by
  decide +kernel

/-- The four records of the worked case of the ready line that reach a buffer (9.5). -/
def readyLineRecords : List Instr := [.collect 1, .queue 0 [], .queue 0 [], .stationRead 0]

/-- The fifth record begins with ready low: it is discarded and reported, and the four records wait on, or are
answered already (R159, the worked case of the ready line). -/
theorem test_record_with_ready_low_is_discarded :
    let begins : Instr := .requestRecordBegins .control
    ((run (List.replicate 5 begins)
        { State.reset with pending := readyLineRecords ++ [.groupRead 1] }).map fun t =>
          (t.pending, t.control.claimed, t.raw)) = some (readyLineRecords, 4, 0x200) ∧
      ((run (readyLineRecords.flatMap (fun c => [begins, c]) ++ [begins])
        { State.reset with pending := [.groupRead 1, .answerSent .control] }).map fun t =>
          (t.pending, t.control.answers.length)) = some ([.answerSent .control], 4) := by decide +kernel

/-- COLLECT's answer sent in full raises ready again and leaves the other three (the same worked case). -/
theorem test_answer_sent_raises_ready :
    ((run (List.replicate 5 (.requestRecordBegins .control) ++ readyLineRecords ++
        [.answerSent .control]) State.reset).map fun t =>
          (t.control.answers.map fun a => (a.words.headD 0).extractLsb' 24 8, t.ready .control)) =
      some ([0x83, 0x83, 0x8A], true) := by decide +kernel

/-- In the last cycle of its hold a station's expiry is due and the hold stays at that cycle; a cycle
earlier the hold counts (R177). -/
theorem test_last_cycle_of_a_hold :
    let before := busy.setStation 1 { member .holding [slot 1 10] with hold := some 2 }
    (lastCycles.dueOfStation 1, (lastCycles.station 1).tick.hold, before.dueOfStation 1,
      (before.station 1).tick.hold) = ([.holdTimerExpiry 1], some 1, [], some 1) := by decide +kernel

theorem witness_DecodeInvertsEncode :
    requestLink (.report .b 1 2 3 [1, 0, 3]) = some (.radio .b) ∧
      (Instr.report .b 1 2 3 [1, 0, 3]).wellFormed = true := by decide

/-- A REPORT of one outcome and a NOTE with every reserved bit set: header bits 15–0, and the bits of each
body word that no layout names. -/
theorem witness_ReservedBitsIgnored :
    (0x4204FFFF#32).extractLsb' 16 16 = (0x42040000#32).extractLsb' 16 16 ∧
      (∀ k < 3, [0xFF81FF09#32, 0x00000173#32, 0xFFFFFFFE#32].getD k 0 &&&
          Spec.named (.radio .a) 0x42 1 k =
        [0x00010009#32, 0x00000173#32, 0x00000002#32].getD k 0 &&&
          Spec.named (.radio .a) 0x42 1 k) ∧
      ∀ k < 2, [0xFFFD004D#32, 0xFFFF04B0#32].getD k 0 &&& Spec.named (.radio .a) 0x44 0x7D k =
        [0x0001004D#32, 0x000004B0#32].getD k 0 &&& Spec.named (.radio .a) 0x44 0x7D k := by decide

/-- Positions beyond the outcome count are reserved (R190). -/
theorem test_report_ignores_positions_beyond_its_count :
    decodeRecord (.radio .a) [0x4204FFFF#32, 0xFF81FF09#32, 0x00000173#32, 0xFFFFFFFE#32] =
      .report .a 9 371 0 [2] := by decide

/-- A QUEUE of one entry in four words, and a REPORT of seventeen outcomes in five (R183). -/
theorem witness_RecordChecks_counted :
    decodeRecord .control [0x03040000#32, 0x00010040#32, 7#32, 100#32] = .queue 64 [⟨7, 100⟩] ∧
      decodeRecord .control [0x03030000#32, 0x00010040#32, 7#32] = .malformedRecord .control 0x03 ∧
      decodeRecord (.radio .b) [0x42050000#32, 0x00110003#32, 9#32, 0x55555555#32, 3#32] =
        .report .b 3 9 0 (List.replicate 16 1 ++ [3]) ∧
      decodeRecord (.radio .b) [0x42040000#32, 0x00110003#32, 9#32, 0x55555555#32] =
        .malformedRecord (.radio .b) 0x42 := by decide

theorem witness_RecordChecks :
    ((0x02030000#32).extractLsb' 16 8).toNat ≠ ([0#32] : List Word).length + 1 ∧
      isRequestKind .control ((0x1A010000#32).extractLsb' 24 8) = false ∧
      Spec.fixedWords .control ((0x02020000#32).extractLsb' 24 8).toNat = some 2 := by decide

end Sys2Proof.Tests
end

section
/-! The arithmetic of chapter 1: division rounded up (R1) and the frame time (R4). -/

namespace Sys2Proof

/-- A quotient rounded up is the least number that, times the divisor, reaches the dividend (R1). -/
theorem divUp_le_iff {a b c : Nat} (hb : 0 < b) : divUp a b ≤ c ↔ a ≤ c * b := by
  rw [divUp, Nat.div_le_iff_le_mul_add_pred hb, Nat.add_le_add_iff_right, Nat.mul_comm]

theorem le_divUp_mul (a : Nat) {b : Nat} (hb : 0 < b) : a ≤ divUp a b * b :=
  (divUp_le_iff hb).1 (Nat.le_refl _)

theorem divUp_pos {a b : Nat} (ha : 0 < a) (hb : 0 < b) : 0 < divUp a b := by
  rw [← Nat.not_le, divUp_le_iff hb]
  omega

/-- Rounding up adds less than one: the number below the quotient does not reach the dividend. -/
theorem divUp_pred_mul_lt {a b : Nat} (ha : 0 < a) (hb : 0 < b) : (divUp a b - 1) * b < a := by
  have hbelow : divUp a b - 1 < divUp a b := Nat.sub_lt (divUp_pos ha hb) Nat.one_pos
  rwa [← Nat.not_le, divUp_le_iff hb, Nat.not_le] at hbelow

end Sys2Proof

namespace Sys2Proof.Machine

/-- The largest frame time of R4: 8191 bytes with an overhead of 255 at the lowest rate. -/
theorem frameTime_le {settings : RadioSettings} {rate length : Nat} (hlength : length ≤ 8191)
    (hoverhead : settings.frameOverhead ≤ 255) (hrate : 10 ≤ rate) :
    frameTime settings rate length ≤ 1081088 := by
  refine (divUp_le_iff (by omega)).2 ?_
  calc (length + settings.frameOverhead) * 1280
      ≤ 1081088 * 10 := by omega
    _ ≤ 1081088 * rate := Nat.mul_le_mul_left _ hrate

/-- Settles O5: the frame time is a quotient rounded up of a positive product. -/
theorem frameTimeIsCeiling : Obligations.FrameTimeIsCeiling := by
  intro settings rate length hlength hlengthMax hoverhead hrate _
  have hproduct : 0 < (length + settings.frameOverhead) * 1280 := by omega
  have hpos : 0 < rate := by omega
  exact ⟨le_divUp_mul _ hpos, divUp_pred_mul_lt hproduct hpos, divUp_pos hproduct hpos,
    frameTime_le hlengthMax hoverhead hrate⟩

end Sys2Proof.Machine
end

section
/-! The plain writes of `Sys2Proof.Spec` are the model's named operations: a statement in the words of the
spec is turned into them here, and the lemmas about the operations take it from there. -/

namespace Sys2Proof.Spec

open Machine

/-! ### Plain writes -/

@[simp] theorem withStation_eq (s : State) (i : StationIndex) (st : Station) :
    withStation s i st = s.setStation i st := rfl

@[simp] theorem withRadio_eq (s : State) (r : Radio) (u : RadioUnit) :
    withRadio s r u = s.setRadio r u := by cases r <;> rfl

@[simp] theorem withRing_eq (s : State) (r : Radio) (g : GroupIndex) (ring : List StationIndex) :
    withRing s r g ring = s.setRing r g ring := withRadio_eq ..

@[simp] theorem leaves_eq (s : State) (i : StationIndex) : leaves s i = s.exitRing i := by
  unfold leaves State.exitRing
  rw [withRing_eq]
  rfl

@[simp] theorem sends_control (s : State) (kind : Byte) (code : Code) (body : Body) :
    sends s (.control kind code body) = s.reply kind code body := rfl

@[simp] theorem header_eq (s : State) (kind : Byte) (code : Code) :
    header s kind code = s.replyHeader kind code := rfl

@[simp] theorem retired_eq (s : State) (ns : List Notice) : retired s ns = s.retireAll ns :=
  (State.retireAll_eq s ns).symm

@[simp] theorem vacant_eq (st : Station) : vacant st = st.vacated := rfl

end Sys2Proof.Spec

namespace Sys2Proof.Machine

/-! ### When a Control Link command is taken -/

theorem State.ignores_control_of_open {s : State} (h : Spec.controlOpen s) :
    s.ignores .control = false := by
  obtain ⟨hinput, hanswer⟩ := h
  simp [State.ignores, hinput, hanswer]

/-- A Control Link command is taken where the link takes requests. -/
theorem State.onControl_of_open {s : State} (h : Spec.controlOpen s) (t : State) :
    s.onControl t = .next t :=
  State.onControl_taken (State.ignores_control_of_open h) t

/-! ### Values -/

/-- Clamping takes the nearest bound of the range (R18). -/
theorem clampTo_eq_nearest {lo hi : Nat} (h : lo ≤ hi) (n : Nat) : clampTo lo hi n = Spec.nearest lo hi n :=
  clampTo_eq h n

theorem clampWeight_eq_nearest (weight : Byte) : clampWeight weight = Spec.nearest 1 32 weight.toNat :=
  clampTo_eq_nearest (by decide) _

/-- The answer says DONE_ADJUSTED exactly where the weight was out of its range (R18). -/
theorem writeCode_weightAdjusted (weight : Byte) :
    writeCode (weightAdjusted weight) = Spec.written (1 ≤ weight.toNat ∧ weight.toNat ≤ 32) := by
  have hclamp : clampWeight weight = weight.toNat ↔ 1 ≤ weight.toNat ∧ weight.toNat ≤ 32 := by
    unfold clampWeight clampTo
    omega
  simp [writeCode, weightAdjusted, Spec.written, ← hclamp]

theorem admitRate_eq_rateTaken (rate : BitVec 16) : admitRate rate = Spec.rateTaken 0 rate := by
  have hzero : rate = 0 ↔ rate.toNat = 0 := (BitVec.toNat_inj (y := 0)).symm
  simp only [admitRate, Spec.rateTaken, clampRate, hzero, clampTo_eq_nearest (show 10 ≤ 24000 by decide)]

/-- Radio fields 0 and 3 name no radio (R187). -/
theorem radioOf_none {owner : BitVec 2} (h : owner = 0 ∨ owner = 3) : radioOf owner = none := by
  rcases h with rfl | rfl <;> rfl

/-! ### Retirement and station records -/

theorem State.raiseIf_setStation (s : State) (i : StationIndex) (st : Station) (c : Prop) [Decidable c]
    (k : EventKind) : (s.setStation i st).raiseIf c k = (s.raiseIf c k).setStation i st := by
  unfold State.raiseIf
  split <;> rfl

/-- Retiring slots and writing a station's record commute: a retirement touches no station. -/
theorem State.retireAll_setStation (s : State) (i : StationIndex) (st : Station) (ns : List Notice) :
    (s.setStation i st).retireAll ns = (s.retireAll ns).setStation i st := by
  simp only [State.retireAll_eq]
  exact State.raiseIf_setStation { s with releaseList := s.releaseList ++ ns } i st _ _

/-- A record written after its station's queue was retired leaves the retired run and that record. -/
theorem State.setStation_retireQueue (s : State) (i : StationIndex) (reason : Reason) (st : Station) :
    (s.retireQueue i reason).setStation i st =
      (s.retireAll (Spec.notices reason (s.station i).queue)).setStation i st := by
  rw [State.retireQueue_eq, State.retireAll_setStation, State.setStation_setStation]
  rfl

end Sys2Proof.Machine
end

section
/-! The station table (chapter 2): ADMIT, DISMISS, STATION READ and STATION SCAN. -/

namespace Sys2Proof.Machine

/-! ### Selector matching (R67, R68) -/

theorem selectorMatches_iff (g : GroupSettings) (ssid : Nat) (role : Byte) :
    selectorMatches g ssid role = true ↔ Spec.selects g ssid role := by
  simp [selectorMatches, Spec.selects, BitVec.le_def, and_assoc]

/-- The claiming group is the lowest-numbered one whose selector matches (R67). -/
theorem State.claimingGroup_eq_some_iff (s : State) (ssid : Nat) (role : Byte) (g : GroupIndex) :
    s.claimingGroup ssid role = some g ↔ Spec.claims s g ssid role := by
  simp only [Spec.claims, ← selectorMatches_iff]
  exact List.find?_ofFn_eq_some_of_injective Function.injective_id

theorem State.claimingGroup_eq_none_iff (s : State) (ssid : Nat) (role : Byte) :
    s.claimingGroup ssid role = none ↔ ∀ g : GroupIndex, ¬ Spec.selects s.profile[g] ssid role := by
  simp only [← selectorMatches_iff]
  simp [State.claimingGroup, State.group]

theorem State.matchGroup_noGroup {s : State} {ssid : Nat} {role : Byte}
    (h : ∀ g : GroupIndex, ¬ Spec.selects s.profile[g] ssid role) :
    s.matchGroup ssid role = .error .noGroup := by
  rw [State.matchGroup, (s.claimingGroup_eq_none_iff ssid role).2 h]

theorem State.matchGroup_closed {s : State} {ssid : Nat} {role : Byte} {g : GroupIndex}
    (h : Spec.claims s g ssid role) (hclosed : s.profile[g].closed = true) :
    s.matchGroup ssid role = .error .groupClosed := by
  rw [State.matchGroup, (s.claimingGroup_eq_some_iff ssid role g).2 h]
  exact if_pos hclosed

theorem State.matchGroup_open {s : State} {ssid : Nat} {role : Byte} {g : GroupIndex}
    (h : Spec.claims s g ssid role) (hopen : s.profile[g].closed = false) :
    s.matchGroup ssid role = .ok g := by
  rw [State.matchGroup, (s.claimingGroup_eq_some_iff ssid role g).2 h]
  exact if_neg (Bool.eq_false_iff.1 hopen)

/-! ### ADMIT (R27, R28) -/

section
variable {s : State} {index : BitVec 16} {ssid : Byte} {pinned : Bool} {role weight : Byte}
  {rate : BitVec 16} {i : StationIndex} {r : Radio}

theorem exec_admitStation (h : Spec.controlOpen s) (owner : BitVec 2) :
    exec (.admitStation index ssid owner pinned role weight rate) s =
      .next (admitTaken index ssid owner pinned role weight rate s) :=
  State.onControl_of_open h _

/-- The first check of R27: the index, the SSID number and the radio are ones there are. -/
theorem admitTaken_range {owner : BitVec 2}
    (h : 512 ≤ index.toNat ∨ 15 < ssid.toNat ∨ owner = 0 ∨ owner = 3) :
    admitTaken index ssid owner pinned role weight rate s = s.replyHeader Kind.admitReq .range := by
  unfold admitTaken
  rcases h with hindex | hssid | howner
  · simp [stationOf_none hindex]
  · split
    · exact if_pos hssid
    · rfl
  · simp [radioOf_none howner]

theorem admitTaken_busy (hindex : index.toNat = i.val) (hssid : ssid.toNat ≤ 15)
    (hbusy : (s.station i).state ≠ .free) :
    admitTaken index ssid (radioCode r) pinned role weight rate s =
      s.replyHeader Kind.admitReq .stationBusy := by
  simp [admitTaken, stationOf_eq hindex, Nat.not_lt.mpr hssid, hbusy]

theorem admitTaken_refused (hindex : index.toNat = i.val) (hssid : ssid.toNat ≤ 15)
    (hfree : (s.station i).state = .free) {code : Code}
    (hmatch : s.matchGroup ssid.toNat role = .error code) :
    admitTaken index ssid (radioCode r) pinned role weight rate s = s.replyHeader Kind.admitReq code := by
  simp [admitTaken, stationOf_eq hindex, Nat.not_lt.mpr hssid, hfree, hmatch]

theorem admitTaken_filled (hindex : index.toNat = i.val) (hssid : ssid.toNat ≤ 15)
    (hfree : (s.station i).state = .free) {g : GroupIndex}
    (hmatch : s.matchGroup ssid.toNat role = .ok g) :
    admitTaken index ssid (radioCode r) pinned role weight rate s =
      (s.setStation i (admittedRecord g ssid r pinned role weight rate)).reply Kind.admitReq
        (writeCode (weightAdjusted weight)) (.stationGroup i g) := by
  simp [admitTaken, stationOf_eq hindex, Nat.not_lt.mpr hssid, hfree, hmatch]

end

/-- Settles O9: by the first check of R27 that fails, or the record of R28. -/
theorem admitChecksThenFills : Obligations.AdmitChecksThenFills := by
  intro s index ssid owner pinned role weight rate hopen
  simp only [exec_admitStation hopen]
  refine ⟨fun hrange => congrArg _ (admitTaken_range hrange), ?_⟩
  rintro i r hindex hssid rfl
  refine ⟨fun hbusy => congrArg _ (admitTaken_busy hindex hssid hbusy), fun hfree => ⟨?_, ?_⟩⟩
  · intro hnone
    exact congrArg _ (admitTaken_refused hindex hssid hfree (State.matchGroup_noGroup hnone))
  · intro g hclaims
    refine ⟨fun hclosed => ?_, fun hgroup => ?_⟩
    · exact congrArg _ (admitTaken_refused hindex hssid hfree (State.matchGroup_closed hclaims hclosed))
    · rw [admitTaken_filled hindex hssid hfree (State.matchGroup_open hclaims hgroup),
        writeCode_weightAdjusted, admittedRecord, clampWeight_eq_nearest, admitRate_eq_rateTaken]
      rfl

/-! ### DISMISS (R30 to R32) -/

section
variable {s : State} {index : BitVec 16} {i : StationIndex}

theorem exec_dismiss (h : Spec.controlOpen s) (index : BitVec 16) :
    exec (.dismiss index) s = .next (dismissTaken index s) :=
  State.onControl_of_open h _

/-- An immediate DISMISS leaves the station's ring, retires its queue and writes the vacant record (R31). -/
theorem State.dismissNow_eq (s : State) (i : StationIndex) :
    s.dismissNow i =
      ((s.exitRing i).retireAll (Spec.notices .dismissed (s.station i).queue)).setStation i
        (s.station i).vacated := by
  rw [State.dismissNow, State.freeStation, State.setStation_retireQueue, State.retireQueue_station_self,
    State.exitRing_station]
  rfl

/-- A deferred DISMISS retires the queue, removes a pending owner and sets the mark (R32). -/
theorem State.dismissLater_eq (s : State) (i : StationIndex) :
    s.dismissLater i =
      (s.retireAll (Spec.notices .dismissed (s.station i).queue)).setStation i
        { s.station i with queue := [], pendingOwner := none, dismissMark := true } := by
  rw [State.dismissLater, State.setStation_retireQueue, State.retireQueue_station_self]

theorem dismissTaken_range (h : 512 ≤ index.toNat) :
    dismissTaken index s = s.replyHeader Kind.dismissReq .range := by
  simp [dismissTaken, stationOf_none h]

theorem dismissTaken_free (hindex : index.toNat = i.val) (hstate : (s.station i).state = .free) :
    dismissTaken index s = s.replyHeader Kind.dismissReq .noStation := by
  simp [dismissTaken, stationOf_eq hindex, hstate]

theorem dismissTaken_granted (hindex : index.toNat = i.val) (hstate : (s.station i).state = .granted) :
    dismissTaken index s =
      (if (s.station i).dismissMark then s else s.dismissLater i).replyHeader Kind.dismissReq
        .deferred := by
  simp [dismissTaken, stationOf_eq hindex, hstate]

theorem dismissTaken_now (hindex : index.toNat = i.val) (hfree : (s.station i).state ≠ .free)
    (hgranted : (s.station i).state ≠ .granted) :
    dismissTaken index s = (s.dismissNow i).replyHeader Kind.dismissReq .done := by
  rw [dismissTaken, stationOf_eq hindex]
  cases hstate : (s.station i).state with
  | free => exact absurd hstate hfree
  | granted => exact absurd hstate hgranted
  | idle | holding | ready | dozing => simp [hstate]

end

/-- Settles O10: by the station's state and, where it is GRANTED, its dismiss mark. -/
theorem dismissByState : Obligations.DismissByState := by
  intro s index hopen
  simp only [exec_dismiss hopen, Spec.header_eq, Spec.withStation_eq, Spec.retired_eq, Spec.leaves_eq,
    Spec.vacant_eq]
  refine ⟨fun hrange => congrArg _ (dismissTaken_range hrange), fun i hindex => ⟨?_, ?_, ?_, ?_⟩⟩
  · exact fun hfree => congrArg _ (dismissTaken_free hindex hfree)
  · intro hfree hgranted
    rw [dismissTaken_now hindex hfree hgranted, State.dismissNow_eq]
    rfl
  · intro hgranted hmark
    rw [dismissTaken_granted hindex hgranted, hmark, State.dismissLater_eq]
    rfl
  · intro hgranted hmark
    rw [dismissTaken_granted hindex hgranted, hmark]
    rfl

/-! ### STATION READ (R38) -/

/-- Settles O15: the snapshot is the record field by field, and the two times are quotients rounded up. -/
theorem stationReadReturnsRecord : Obligations.StationReadReturnsRecord := by
  intro s index hopen
  have hexec : exec (.stationRead index) s = .next (stationReadTaken index s) :=
    State.onControl_of_open hopen _
  rw [hexec]
  refine ⟨fun hrange => ?_, fun i hindex => ?_⟩
  · rw [stationReadTaken, stationOf_none hrange]
    rfl
  · rw [stationReadTaken, stationOf_eq hindex]
    rfl

/-! ### STATION SCAN (R39) -/

section
variable {s : State} {cursor : StationIndex} {n : Nat} {found : List StationIndex}

theorem State.mem_admittedFrom {i : StationIndex} :
    i ∈ s.admittedFrom cursor ↔ cursor ≤ i ∧ (s.station i).state ≠ .free := by
  simp [State.admittedFrom, allStations]

theorem State.admittedFrom_ascending (s : State) (cursor : StationIndex) :
    (s.admittedFrom cursor).Pairwise (· < ·) :=
  (List.pairwise_lt_finRange _).filter _

/-- An element the first `n` of an ascending list do not hold stands behind all of them, and they are `n`. -/
theorem lt_of_not_mem_take {l : List StationIndex} (hl : l.Pairwise (· < ·)) {j : StationIndex}
    (hj : j ∈ l) (hn : j ∉ l.take n) : (l.take n).length = n ∧ ∀ i ∈ l.take n, i < j := by
  have hdrop : j ∈ l.drop n := by
    rw [← List.take_append_drop n l, List.mem_append] at hj
    exact hj.resolve_left hn
  refine ⟨List.length_take_of_le ?_, fun i hi => ?_⟩
  · have := List.length_pos_of_mem hdrop
    rw [List.length_drop] at this
    omega
  · rw [← List.take_append_drop n l, List.pairwise_append] at hl
    obtain ⟨-, -, hbefore⟩ := hl
    exact hbefore i hi j hdrop

theorem le_of_mem_of_getLast? (hfound : found.Pairwise (· < ·)) {i j : StationIndex} (hj : j ∈ found)
    (hlast : found.getLast? = some i) : j ≤ i := by
  obtain ⟨_, rfl⟩ := List.mem_getLast?_eq_getLast hlast
  exact (hfound.imp le_of_lt).rel_getLast hj

/-- A scan stops below 511 exactly with the count met, and the cursor stands behind the last one found. -/
theorem scanStop_eq_some_iff {k : StationIndex} :
    scanStop found n = some k ↔
      found.length = n ∧ ∃ i, found.getLast? = some i ∧ k.val = i.val + 1 := by
  unfold scanStop
  split
  next hlast => simp [hlast]
  next i hlast =>
    split
    next hbelow =>
      split
      next hcount => simp [hlast, hcount, Fin.ext_iff (b := k), eq_comm (a := k.val)]
      next hcount => simp [hcount]
    next hend =>
      have hk := k.isLt
      simp [hlast]
      omega

/-- A scan carries the END mark exactly where it found fewer than it looked for or reached index 511. -/
theorem scanStop_eq_none_iff (hn : n ≠ 0) (hlen : found.length ≤ n) (hfound : found.Pairwise (· < ·)) :
    scanStop found n = none ↔ found.length < n ∨ (511 : StationIndex) ∈ found := by
  constructor
  · intro hnone
    rcases Nat.lt_or_eq_of_le hlen with hfew | hcount
    · exact .inl hfew
    · cases hlast : found.getLast? with
      | none => exact absurd (by simp [← hcount, List.getLast?_eq_none_iff.1 hlast]) hn
      | some i =>
        have hi : i = 511 := by
          by_contra hne
          have hbelow : i.val + 1 < 512 := Nat.lt_of_le_of_ne i.isLt fun h => hne (Fin.ext (Nat.succ.inj h))
          have hstop : scanStop found n = some ⟨i.val + 1, hbelow⟩ :=
            scanStop_eq_some_iff.2 ⟨hcount, i, hlast, rfl⟩
          simp [hnone] at hstop
        exact .inr (hi ▸ List.mem_of_getLast? hlast)
  · intro hend
    refine Option.eq_none_iff_forall_ne_some.2 fun k hk => ?_
    obtain ⟨hcount, i, hlast, hnext⟩ := scanStop_eq_some_iff.1 hk
    rcases hend with hfew | hlastIndex
    · omega
    · have hle : (511 : StationIndex) ≤ i := le_of_mem_of_getLast? hfound hlastIndex hlast
      have hval : 511 ≤ i.val := hle
      have hlt : k.val < 512 := k.isLt
      omega

theorem stationScanTaken_range {count : BitVec 4} {restart : Bool} (h : count = 0 ∨ 8 < count.toNat) :
    stationScanTaken count restart s = s.replyHeader Kind.stationScan .range := by
  refine if_pos (h.imp_left ?_)
  rintro rfl
  rfl

theorem stationScanTaken_collected {count : BitVec 4} {restart : Bool} (hpos : count.toNat ≠ 0)
    (hmax : count.toNat ≤ 8) (hstart : (if restart then 0 else s.scanCursor) = cursor)
    (hfound : (s.admittedFrom cursor).take count.toNat = found) :
    stationScanTaken count restart s =
      { s with scanCursor := (scanStop found count.toNat).getD 0 }.reply Kind.stationScan .done
        (.scan (found.map s.snapshot) (scanStop found count.toNat).isNone) := by
  subst hstart hfound
  exact if_neg (by omega)

end

/-- Settles O16: what is found are the first of the admitted stations from the cursor upward, and the END mark
is the absence of an index to go on from. -/
theorem stationScanCollects : Obligations.StationScanCollects := by
  intro s count restart hopen
  have hexec : exec (.stationScan count restart) s = .next (stationScanTaken count restart s) :=
    State.onControl_of_open hopen _
  rw [hexec]
  refine ⟨fun hrange => congrArg _ (stationScanTaken_range hrange), fun hpos hmax => ?_⟩
  have hcount : count.toNat ≠ 0 := fun h => hpos (BitVec.eq_of_toNat_eq h)
  obtain ⟨start, hstart⟩ : ∃ i : StationIndex, (if restart then 0 else s.scanCursor) = i := ⟨_, rfl⟩
  have hval : (if restart then 0 else s.scanCursor.val) = start.val := by
    rw [← hstart]
    cases restart <;> rfl
  rw [hval]
  have hascending := s.admittedFrom_ascending start
  have hlen := List.length_take_le count.toNat (s.admittedFrom start)
  refine ⟨_, _, _, congrArg _ (stationScanTaken_collected hcount hmax hstart rfl), hascending.take, hlen,
    fun i hi => ?_, fun j hj hadmitted hout => ?_, fun hend => ?_, fun hmore => ?_, ?_⟩
  · exact State.mem_admittedFrom.1 (List.mem_of_mem_take hi)
  · exact lt_of_not_mem_take hascending (State.mem_admittedFrom.2 ⟨hj, hadmitted⟩) hout
  · rw [Option.isNone_iff_eq_none.1 hend]
    rfl
  · obtain ⟨k, hstop⟩ := Option.isSome_iff_exists.1 (by simpa using hmore)
    rw [hstop]
    exact scanStop_eq_some_iff.1 hstop
  · rw [Option.isNone_iff_eq_none]
    exact scanStop_eq_none_iff hcount hlen hascending.take

end Sys2Proof.Machine
end

section
/-! The pool's requests (chapter 3): QUEUE and COLLECT. -/

namespace Sys2Proof.Spec

open Machine

@[simp] theorem joins_eq (s : State) (r : Radio) (g : GroupIndex) (i : StationIndex) :
    joins s r g i = s.joinRing r g i := withRing_eq ..

end Sys2Proof.Spec

namespace Sys2Proof.Machine

/-! ### QUEUE (R48 to R51) -/

/-- The stations that R26 refuses NO_STATION. -/
theorem Station.not_actionable_iff (st : Station) :
    (!st.actionable) = true ↔ st.state = .free ∨ st.dismissMark = true := by
  simp [Station.actionable]

/-- The pool-pressure test, with its division by the backlogged stations only where there are some (R50). -/
theorem State.poolPressure_iff (s : State) (i : StationIndex) :
    s.poolPressure i = true ↔ s.freeCount < s.device.poolReserve ∧ 0 < s.backloggedCount ∧
      s.queuedCount / s.backloggedCount < (s.station i).queue.length := by
  simp [State.poolPressure, Nat.pos_iff_ne_zero, and_assoc]

/-- The checks of R49 stand in the same order in the model. -/
theorem State.entryOutcome_eq (s : State) (i : StationIndex) (e : QueueEntry) :
    s.entryOutcome i e = Spec.outcome s i e := by
  simp only [State.entryOutcome, Spec.outcome, Station.not_actionable_iff, State.poolPressure_iff]
  rfl

/-- An accepted entry is enqueued and a refused one leaves no trace (R51). -/
theorem State.enqueue_eq (s : State) (i : StationIndex) (e : QueueEntry) :
    Spec.enqueue s i e = if s.entryOutcome i e = .done then s.acceptEntry i e else s := by
  rw [State.entryOutcome_eq]
  rfl

theorem State.evaluateEntries_eq (s : State) (i : StationIndex) (es : List QueueEntry) :
    s.evaluateEntries i es = Spec.entries i s es := by
  induction es generalizing s with
  | nil => rfl
  | cons e es ih =>
    simp only [State.evaluateEntries, Spec.entries, ih, State.enqueue_eq, State.entryOutcome_eq]

/-- Entering READY is the record and the tail of the ring (R23). -/
theorem State.joins_ready_eq (s : State) (i : StationIndex) :
    Spec.joins (Spec.withStation s i { s.station i with state := .ready, hold := none })
      (s.station i).owner (s.station i).group i = s.enterReady i := by
  rw [Spec.joins_eq]
  rfl

/-- The transition of R24, by the station's state. -/
theorem State.queueGrew_eq (s : State) (i : StationIndex) : s.queueGrew i = Spec.afterQueue s i := by
  simp only [State.queueGrew, Spec.afterQueue, State.joins_ready_eq]
  cases (s.station i).state <;> rfl

section
variable {s : State} {index : BitVec 16} {es : List QueueEntry}

theorem queueTaken_range (hfits : es.length ≤ 126)
    (h : 512 ≤ index.toNat ∨ es.length = 0 ∨ 16 < es.length) :
    queueTaken index es s = s.replyHeader Kind.queueReq .range := by
  rw [queueTaken, if_neg (Nat.not_lt.mpr hfits)]
  rcases h with hindex | hcount
  · rw [stationOf_none hindex]
  · cases stationOf index with
    | none => rfl
    | some i => exact if_pos hcount

theorem queueTaken_evaluated {i : StationIndex} (hindex : index.toNat = i.val) (hpos : 1 ≤ es.length)
    (hmax : es.length ≤ 16) :
    queueTaken index es s =
      (s.queueEntries i es).1.reply Kind.queueReq .done
        (.queueOutcomes i ((s.queueEntries i es).1.station i).queue.length (s.queueEntries i es).2) := by
  rw [queueTaken, if_neg (by omega), stationOf_eq hindex]
  exact if_neg (by omega)

end

/-- Settles O17: entry by entry (`State.evaluateEntries_eq`), then the transition by the station's state
(`State.queueGrew_eq`). -/
theorem queueEvaluatesEntries : Obligations.QueueEvaluatesEntries := by
  intro s index es hopen
  have hexec : exec (.queue index es) s = .next (queueTaken index es s) := State.onControl_of_open hopen _
  simp only [hexec]
  refine ⟨fun hfits hrange => congrArg _ (queueTaken_range hfits hrange), fun i hindex hpos hmax => ?_⟩
  rw [queueTaken_evaluated hindex hpos hmax, State.queueEntries, State.evaluateEntries_eq,
    State.queueGrew_eq]
  rfl

/-! ### COLLECT (R60) -/

theorem collectTaken_range {s : State} {count : Byte} (h : count.toNat = 0 ∨ 32 < count.toNat) :
    collectTaken count s = s.replyHeader Kind.collectReq .range := if_pos h

theorem collectTaken_taken {s : State} {count : Byte} (hpos : 1 ≤ count.toNat) (hmax : count.toNat ≤ 32) :
    collectTaken count s =
      { s with releaseList := s.releaseList.drop count.toNat }.reply Kind.collectReq .done
        (.notices (s.releaseList.take count.toNat) (s.releaseList.length - count.toNat)) :=
  if_neg (by omega)

/-- The notices that leave the release list give their slots back to the pool (R44). -/
theorem State.freeCount_releaseList {s : State} {taken left : List Notice}
    (hlist : s.releaseList = taken ++ left) (hpool : Safety.PoolBounded s) :
    State.freeCount { s with releaseList := left } = s.freeCount + taken.length := by
  have hlength : s.retiredCount = taken.length + left.length := by
    rw [State.retiredCount, hlist, List.length_append]
  unfold Safety.PoolBounded at hpool
  change Config.slotCount - (s.queuedCount + s.lentCount + left.length) =
    Config.slotCount - (s.queuedCount + s.lentCount + s.retiredCount) + taken.length
  omega

/-- Settles O19: the release list is cut at the count, and the cut-off notices' slots are free. -/
theorem collectTakesOldest : Obligations.CollectTakesOldest := by
  intro s count hopen
  have hexec : exec (.collect count) s = .next (collectTaken count s) := State.onControl_of_open hopen _
  rw [hexec]
  refine ⟨fun hrange => congrArg _ (collectTaken_range hrange), fun hpos hmax => ?_⟩
  have hlist := (List.take_append_drop count.toNat s.releaseList).symm
  refine ⟨_, _, hlist, List.length_take, ?_, State.freeCount_releaseList hlist⟩
  rw [collectTaken_taken hpos hmax, List.length_drop]
  rfl

end Sys2Proof.Machine
end

section
/-! The group unit's requests (chapter 4): GROUP SET, GROUP READ, PROFILE SAVE and PROFILE RESTORE. -/

namespace Sys2Proof.Machine

/-! ### Written values (R18) -/

/-- Clamping leaves alone exactly the values in the range (R18). -/
theorem clampTo_eq_self_iff {lo hi : Nat} (h : lo ≤ hi) (n : Nat) :
    clampTo lo hi n = n ↔ lo ≤ n ∧ n ≤ hi := by
  unfold clampTo
  omega

/-- The code of an answer to written values, where `adjusted` says that not all of them were in range. -/
theorem writeCode_eq_written {adjusted : Bool} {inRange : Prop} [Decidable inRange]
    (h : adjusted = false ↔ inRange) : writeCode adjusted = Spec.written inRange := by
  cases adjusted <;> simp [writeCode, Spec.written, ← h]

/-! ### GROUP SET and GROUP READ (R65, R66) -/

section
variable {s : State} {group : Byte} {g : GroupIndex}

/-- No value of a block is clamped where each is in its range of R64; four bits hold no retry limit above 15. -/
theorem groupAdjusted_eq_false_iff (b : GroupBlock) :
    groupAdjusted b = false ↔
      (64 ≤ b.quantum.toNat ∧ b.quantum.toNat ≤ 4096) ∧ b.cap.toNat ≤ 1000 ∧
      (256 ≤ b.ceiling.toNat ∧ b.ceiling.toNat ≤ 8000) ∧ b.holdTime.toNat ≤ 4000 ∧
      (1 ≤ b.releaseCount.toNat ∧ b.releaseCount.toNat ≤ 64) ∧ 1 ≤ b.retryLimit.toNat ∧
      b.lifetime.toNat ≤ 10000 ∧ (1 ≤ b.queueLimit.toNat ∧ b.queueLimit.toNat ≤ 2048) := by
  have hretry : clampTo 1 15 b.retryLimit.toNat = b.retryLimit.toNat ↔ 1 ≤ b.retryLimit.toNat := by
    rw [clampTo_eq_self_iff (by decide), and_iff_left (Nat.le_of_lt_succ b.retryLimit.isLt)]
  simp [groupAdjusted, groupSettingsOf, hretry, clampTo_eq_self_iff, and_assoc]

/-- Each number is written at its nearest bound, the other values as given (R65). -/
theorem groupSettingsOf_eq_nearest (b : GroupBlock) :
    groupSettingsOf b =
      { selector := b.selector, ssidSet := b.ssidSet, roleLow := b.roleLow, roleHigh := b.roleHigh,
        closed := b.closed, quantum := Spec.nearest 64 4096 b.quantum.toNat,
        cap := Spec.nearest 0 1000 b.cap.toNat, borrow := b.borrow,
        ceiling := Spec.nearest 256 8000 b.ceiling.toNat,
        holdTime := Spec.nearest 0 4000 b.holdTime.toNat,
        releaseCount := Spec.nearest 1 64 b.releaseCount.toNat,
        retryLimit := Spec.nearest 1 15 b.retryLimit.toNat,
        lifetime := Spec.nearest 0 10000 b.lifetime.toNat,
        queueLimit := Spec.nearest 1 2048 b.queueLimit.toNat } := by
  simp [groupSettingsOf, clampTo_eq_nearest]

@[simp] theorem State.groupBody_profile_set (s : State) (g : GroupIndex) (settings : GroupSettings) :
    State.groupBody { s with profile := s.profile.set g settings } g =
      .groupSettings g s.stack.length settings := by
  simp [State.groupBody, State.group]

theorem groupSetTaken_range {b : GroupBlock} (h : 4 ≤ group.toNat) :
    groupSetTaken group b s = s.replyHeader Kind.groupSet .range := by
  rw [groupSetTaken, groupOf_none h]

/-- GROUP SET writes the group's settings alone and answers them as written (R65). -/
theorem groupSetTaken_written {b : GroupBlock} (h : group.toNat = g.val) :
    groupSetTaken group b s =
      { s with profile := s.profile.set g (groupSettingsOf b) }.reply Kind.groupSet
        (writeCode (groupAdjusted b)) (.groupSettings g s.stack.length (groupSettingsOf b)) := by
  simp [groupSetTaken, groupOf_eq h]

theorem groupReadTaken_range (h : 4 ≤ group.toNat) :
    groupReadTaken group s = s.replyHeader Kind.groupRead .range := by
  rw [groupReadTaken, groupOf_none h]

theorem groupReadTaken_held (h : group.toNat = g.val) :
    groupReadTaken group s =
      s.reply Kind.groupRead .done (.groupSettings g s.stack.length s.profile[g]) := by
  rw [groupReadTaken, groupOf_eq h]
  rfl

end

/-- Settles O20: the settings written are the nearest ones (`groupSettingsOf_eq_nearest`), and the code says
whether all were in range (`groupAdjusted_eq_false_iff`). -/
theorem groupSetAndRead : Obligations.GroupSetAndRead := by
  intro s group b hopen
  have hset : exec (.groupSet group b) s = .next (groupSetTaken group b s) :=
    State.onControl_of_open hopen _
  have hread : exec (.groupRead group) s = .next (groupReadTaken group s) :=
    State.onControl_of_open hopen _
  simp only [hset, hread]
  refine ⟨fun hrange => ?_, fun g hgroup => ⟨?_, ?_⟩⟩
  · exact ⟨congrArg _ (groupSetTaken_range hrange), congrArg _ (groupReadTaken_range hrange)⟩
  · rw [groupSetTaken_written hgroup, writeCode_eq_written (groupAdjusted_eq_false_iff b),
      groupSettingsOf_eq_nearest]
    rfl
  · exact congrArg _ (groupReadTaken_held hgroup)

/-! ### PROFILE SAVE and PROFILE RESTORE (R76, R77) -/

section
variable {s : State}

theorem profileSaveTaken_full (h : 4 ≤ s.stack.length) :
    profileSaveTaken s = s.replyHeader Kind.profileSave .stackFull := if_pos h

theorem profileSaveTaken_pushed (h : s.stack.length < 4) :
    profileSaveTaken s =
      { s with stack := s.profile :: s.stack }.reply Kind.profileSave .done
        (.stackDepth (s.stack.length + 1)) := if_neg (Nat.not_le.2 h)

theorem profileRestoreTaken_empty (h : s.stack = []) :
    profileRestoreTaken s = s.replyHeader Kind.profileRestore .stackEmpty := by
  rw [profileRestoreTaken, h]

theorem profileRestoreTaken_popped {p : Profile} {rest : List Profile} (h : s.stack = p :: rest) :
    profileRestoreTaken s =
      { s with profile := p, stack := rest }.reply Kind.profileRestore .done
        (.stackDepth rest.length) := by
  rw [profileRestoreTaken, h]

end

/-- Settles O21: by whether the stack is at depth 4, and by whether it holds an entry. -/
theorem profileStackPushesAndPops : Obligations.ProfileStackPushesAndPops := by
  intro s hopen
  have hsave : exec .profileSave s = .next (profileSaveTaken s) := State.onControl_of_open hopen _
  have hrestore : exec .profileRestore s = .next (profileRestoreTaken s) :=
    State.onControl_of_open hopen _
  rw [hsave, hrestore]
  refine ⟨fun hfull => ?_, fun hroom => ?_, fun hempty => ?_, fun p rest hstack => ?_⟩
  · exact congrArg _ (profileSaveTaken_full hfull)
  · exact congrArg _ (profileSaveTaken_pushed hroom)
  · exact congrArg _ (profileRestoreTaken_empty hempty)
  · exact congrArg _ (profileRestoreTaken_popped hstack)

end Sys2Proof.Machine
end

section
/-! The Opportunity Schedulers' figures as the Control Link reads them (chapter 5): RADIO READ. -/

namespace Sys2Proof.Machine

/-! ### The epoch length in force (R9, R72) -/

section
variable {u : RadioUnit}

theorem RadioUnit.epochLength_of_inForce {n : Nat} (h : u.epoch.inForce = some n) : u.epochLength = n := by
  rw [RadioUnit.epochLength, h, Option.getD_some]

/-- The setting stands in while no epoch has started. -/
theorem RadioUnit.epochLength_of_not_started (h : u.epoch.inForce = none) :
    u.epochLength = u.settings.epochLength := by
  rw [RadioUnit.epochLength, h, Option.getD_none]

end

/-! ### RADIO READ (R105) -/

theorem cyclesToUs_eq (cycles : Nat) : cyclesToUs cycles = (cycles + 199) / 200 := rfl

/-- The four groups' figures in the order of their indices, read from the state as held. -/
theorem State.groupFigures_all (s : State) (r : Radio) :
    (List.finRange 4).map (s.groupFigures r) =
      [0, 1, 2, 3].map fun g : GroupIndex =>
        { usage := (s.radio r).usage[g],
          cap := (s.radio r).epochLength * s.profile[g].cap / 1000,
          borrowed := (s.radio r).borrowed[g], ringLength := (s.radio r).rings[g].length } := rfl

theorem radioReadTaken_range {s : State} {radio : BitVec 2} (h : radio = 0 ∨ radio = 3) :
    radioReadTaken radio s = s.replyHeader Kind.radioRead .range := by
  rw [radioReadTaken, radioOf_none h]

theorem radioReadTaken_held (s : State) (r : Radio) :
    radioReadTaken (radioCode r) s =
      s.reply Kind.radioRead .done (.radioFigures (s.radioFigures r)) := by
  rw [radioReadTaken, radioOf_radioCode]

/-- Settles O23: a field that names a radio reads back that radio, and the epoch length its figures and caps
are computed from is told apart by whether an epoch has started. -/
theorem radioReadReturnsFigures : Obligations.RadioReadReturnsFigures := by
  intro s radio hopen
  have hexec : exec (.radioRead radio) s = .next (radioReadTaken radio s) :=
    State.onControl_of_open hopen _
  simp only [hexec]
  refine ⟨fun hrange => congrArg _ (radioReadTaken_range hrange), ?_⟩
  rintro r rfl
  rw [radioReadTaken_held, State.radioFigures, State.groupFigures_all, cyclesToUs_eq]
  cases hepoch : (s.radio r).epoch.inForce with
  | none =>
    rw [RadioUnit.epochLength_of_not_started hepoch]
    rfl
  | some n =>
    rw [RadioUnit.epochLength_of_inForce hepoch]
    rfl

end Sys2Proof.Machine
end

section
/-! Grants in flight (chapter 6): the shared end of a grant and REPORT. -/

namespace Sys2Proof.Machine

/-! ### When a radio link command is taken -/

theorem State.onRadio_of_open {s : State} {r : Radio} (h : Spec.linkOpen s r) (kind : Byte) (t : State) :
    s.onRadio r kind t = .next t := by
  obtain ⟨hinput, hup⟩ := h
  exact State.onRadio_taken (by simp [State.ignores, hinput]) hup kind t

/-! ### The frames of a REPORT (R114, R115) -/

@[simp] theorem retirements_retired_cons (n : Notice) (fates : List Fate) :
    retirements (.retired n :: fates) = n :: retirements fates := rfl

@[simp] theorem retirements_survives_cons (f : Slot) (fates : List Fate) :
    retirements (.survives f :: fates) = retirements fates := rfl

@[simp] theorem returns_retired_cons (n : Notice) (fates : List Fate) :
    returns (.retired n :: fates) = returns fates := rfl

@[simp] theorem returns_survives_cons (f : Slot) (fates : List Fate) :
    returns (.survives f :: fates) = f :: returns fates := rfl

@[simp] theorem countRetired_retired_cons (reason : Reason) (n : Notice) (fates : List Fate) :
    countRetired reason (.retired n :: fates) =
      countRetired reason fates + if n.reason = reason then 1 else 0 := by
  simp [countRetired, List.countP_cons]

@[simp] theorem countRetired_survives_cons (reason : Reason) (f : Slot) (fates : List Fate) :
    countRetired reason (.survives f :: fates) = countRetired reason fates := rfl

/-- What a mark does to the fates only moves survivors to the notices, so the counts of R41 may be taken
from the fates as the outcomes give them. -/
theorem settled_eq (limit : Nat) (mark : Bool) (frames : List (Slot × FrameOutcome)) :
    Spec.settled limit mark frames =
      let fates := frames.map fun p => frameFate limit p.1 p.2
      (retirements (fates.map (Fate.underMark mark)), returns (fates.map (Fate.underMark mark)),
        countRetired .delivered fates, countRetired .retryLimit fates) := by
  induction frames with
  | nil => rfl
  | cons p rest ih =>
    obtain ⟨f, outcome⟩ := p
    cases outcome with
    | delivered => simp [Spec.settled, ih, frameFate, Fate.underMark]
    | unsent => cases mark <;> simp [Spec.settled, ih, frameFate, Fate.underMark]
    | failed =>
      by_cases hlimit : limit ≤ f.retry + 1
      · simp [Spec.settled, ih, frameFate, Fate.underMark, hlimit]
      · cases mark <;> simp [Spec.settled, ih, frameFate, Fate.underMark, hlimit]

theorem reportFates_eq (limit : Nat) (g : Grant) (outcomes : List FrameOutcome) :
    reportFates limit g outcomes =
      (g.frames.zip outcomes).map fun p => frameFate limit p.1 p.2 := by
  rw [reportFates, List.map_zip_eq_zipWith]
  rfl

/-! ### Outcome fields (R112, R187) -/

@[simp] theorem outcomesOf_cons (field : BitVec 2) (fields : List (BitVec 2)) :
    outcomesOf (field :: fields) =
      (outcomeOf field).bind fun o => (outcomesOf fields).map (o :: ·) := by
  simp only [outcomesOf, List.mapM_cons, Option.map_eq_bind]
  rfl

/-- A field of 0 names no outcome, and one such field refuses the whole list. -/
theorem outcomesOf_eq_none {fields : List (BitVec 2)} (h : 0 ∈ fields) : outcomesOf fields = none := by
  induction fields with
  | nil => exact absurd h List.not_mem_nil
  | cons field fields ih =>
    rw [outcomesOf_cons]
    rcases List.mem_cons.1 h with rfl | hrest
    · rfl
    · rw [ih hrest]
      cases outcomeOf field <;> rfl

@[simp] theorem outcomeOf_outcomeField (o : FrameOutcome) : outcomeOf (Spec.outcomeField o) = some o := by
  cases o <;> rfl

theorem outcomesOf_outcomeFields (outcomes : List FrameOutcome) :
    outcomesOf (outcomes.map Spec.outcomeField) = some outcomes := by
  induction outcomes with
  | nil => rfl
  | cons o outcomes ih => simp [ih]

/-! ### The hand-over (R25) -/

/-- The choice of the next state reads the station's record alone: its queue, its power, and where it is
READY its owner and group. -/
theorem State.chooseNext_setStation (t : State) (i : StationIndex) (st : Station) :
    (t.setStation i st).chooseNext i =
      if st.queue = [] then t.setStation i { st with state := .idle }
      else if st.power = .doze then t.setStation i { st with state := .dozing }
      else (t.setStation i { st with state := .ready, hold := none }).joinRing st.owner st.group i := by
  simp [State.chooseNext, State.enterReady]

theorem State.raise_setStation (s : State) (i : StationIndex) (st : Station) (k : EventKind) :
    (s.setStation i st).raise k = (s.raise k).setStation i st := rfl

end Sys2Proof.Machine

namespace Sys2Proof.Spec

open Machine

@[simp] theorem raised_eq (s : State) (k : EventKind) : raised s k = s.raise k := rfl

@[simp] theorem sendsOn_eq (s : State) (r : Radio) (a : Answer) : sendsOn s r a = s.answer (.radio r) a :=
  withRadio_eq ..

@[simp] theorem freed_eq (s : State) (r : Radio) (tag : Byte) : freed s r tag = s.dropGrant r tag :=
  withRadio_eq ..

@[simp] theorem increased_eq (s : State) (r : Radio) (g : GroupIndex) (pass : PassKind) (n : Nat) :
    increased s r g pass n = s.chargeCounter r g pass n := by
  cases pass <;> simp only [increased, withRadio_eq] <;> rfl

@[simp] theorem decreased_eq (s : State) (r : Radio) (g : GroupIndex) (pass : PassKind) (n : Nat) :
    decreased s r g pass n = s.refundCounter r g pass n := by
  cases pass <;> exact withRadio_eq ..

/-- By the dismiss mark, and then by whether a move is pending: either way one record is written before the
next state is chosen from it. -/
@[simp] theorem handedOver_eq (s : State) (i : StationIndex) : handedOver s i = s.handOver i := by
  cases hmark : (s.station i).dismissMark with
  | true =>
    rw [State.handOver_marked hmark]
    exact if_pos hmark
  | false =>
    rw [State.handOver_unmarked hmark]
    cases howner : (s.station i).pendingOwner with
    | none =>
      rw [State.applyPending_none (by simpa using howner), State.chooseNext_setStation]
      simp [handedOver, hmark, howner, raisedIf]
    | some r =>
      rw [State.applyPending_some (r := r) (by simpa using howner), State.setStation_setStation,
        State.raise_setStation, State.chooseNext_setStation]
      simp [handedOver, hmark, howner, raisedIf, State.movedRecord, State.newWindow, msToCycles,
        Config.cyclesPerMs]

end Sys2Proof.Spec

namespace Sys2Proof.Machine

/-! ### REPORT (R112 to R118) -/

theorem noteRate_eq_rateTaken (held : Nat) (rate : BitVec 16) :
    noteRate held rate = Spec.rateTaken held rate := by
  have hzero : rate = 0 ↔ rate.toNat = 0 := (BitVec.toNat_inj (y := 0)).symm
  simp only [noteRate, Spec.rateTaken, clampRate, hzero, clampTo_eq_nearest (show 10 ≤ 24000 by decide)]

theorem State.settleFrames_eq (s : State) (i : StationIndex) (fates : List Fate) :
    s.settleFrames i fates =
      (s.setStation i { s.station i with
        queue := returns (fates.map (Fate.underMark (s.station i).dismissMark)) ++
          (s.station i).queue }).retireAll
        (retirements (fates.map (Fate.underMark (s.station i).dismissMark))) := rfl

theorem State.settleFrames_station_self (s : State) (i : StationIndex) (fates : List Fate) :
    (s.settleFrames i fates).station i =
      { s.station i with
        queue := returns (fates.map (Fate.underMark (s.station i).dismissMark)) ++
          (s.station i).queue } := by
  simp [State.settleFrames_eq]

theorem State.correctCounter_eq (s : State) (r : Radio) (g : GroupIndex) (pass : PassKind)
    (actual est : Nat) :
    s.correctCounter r g pass actual est =
      if est ≤ actual then Spec.increased s r g pass (actual - est)
      else Spec.decreased s r g pass (est - actual) := by
  rw [Spec.increased_eq, Spec.decreased_eq]
  rfl

/-- A grant ended by REPORT, in the order of R111: frames, charge, record of the station, hand-over. The
record is written over the one the frames leave, since the group counters are the radio's. -/
theorem State.reported_eq (s : State) (r : Radio) (g : Grant) (airtime rate : BitVec 16)
    (outcomes : List FrameOutcome) :
    Spec.reported s r g airtime rate outcomes =
      s.endReported r g (clampAirtime airtime) rate outcomes := by
  simp only [Spec.reported, settled_eq, ← reportFates_eq, ← State.settleFrames_eq,
    ← State.correctCounter_eq, Spec.withStation_eq, Spec.retired_eq, Spec.handedOver_eq,
    Spec.freed_eq]
  simp only [State.endReported, reportedStation, State.correctCounter_station,
    State.settleFrames_station_self, noteRate_eq_rateTaken]
  rfl

section
variable {s : State} {r : Radio} {tag : Byte} {airtime rate : BitVec 16} {fields : List (BitVec 2)}
  {g : Grant}

theorem reportTaken_stale (h : (s.radio r).findGrant tag = none) :
    reportTaken r tag airtime rate fields s = s.answer (.radio r) (.refused Kind.reportReq .stale) := by
  rw [reportTaken, h]
  rfl

theorem reportTaken_mismatch (h : (s.radio r).findGrant tag = some g)
    (hcount : fields.length ≠ g.frames.length) :
    reportTaken r tag airtime rate fields s =
      s.answer (.radio r) (.refused Kind.reportReq .mismatch) := by
  rw [reportTaken, h]
  exact if_pos hcount

theorem reportTaken_malformed (h : (s.radio r).findGrant tag = some g)
    (hcount : fields.length = g.frames.length) (hfields : outcomesOf fields = none) :
    reportTaken r tag airtime rate fields s =
      (s.answer (.radio r) (.refused Kind.reportReq .malformed)).raise .malformed := by
  rw [reportTaken, h]
  simp only [hcount, ne_eq, not_true_eq_false, if_false, hfields]
  rfl

theorem reportTaken_taken {outcomes : List FrameOutcome} (h : (s.radio r).findGrant tag = some g)
    (hcount : fields.length = g.frames.length) (hfields : outcomesOf fields = some outcomes) :
    reportTaken r tag airtime rate fields s =
      (s.endReported r g (clampAirtime airtime) rate outcomes).answer (.radio r)
        (.taken Kind.reportReq (tag.setWidth 16)) := by
  rw [reportTaken, h]
  simp only [hcount, ne_eq, not_true_eq_false, if_false, hfields]

end

/-- Settles O47: the checks of R112 in their order, and a REPORT that passes them ends its grant as
`State.reported_eq` says. -/
theorem reportSettlesGrant : Obligations.ReportSettlesGrant := by
  intro s r tag airtime rate fields hopen
  have hexec : exec (.report r tag airtime rate fields) s =
      .next (reportTaken r tag airtime rate fields s) := State.onRadio_of_open hopen _ _
  simp only [hexec, Spec.sendsOn_eq, Spec.raised_eq, State.reported_eq, BitVec.ofNat_toNat]
  refine ⟨fun hstale => congrArg _ (reportTaken_stale hstale), fun g hgrant => ⟨?_, ?_, ?_⟩⟩
  · exact fun hcount => congrArg _ (reportTaken_mismatch hgrant hcount)
  · exact fun hcount hzero =>
      congrArg _ (reportTaken_malformed hgrant hcount (outcomesOf_eq_none hzero))
  · rintro outcomes rfl hcount
    exact congrArg _ (reportTaken_taken hgrant (by rwa [List.length_map])
      (outcomesOf_outcomeFields outcomes))

end Sys2Proof.Machine
end

section
/-! Band steering (chapter 8): STEER. -/

namespace Sys2Proof.Machine

theorem Station.actionable_iff_admitted (st : Station) : st.actionable = true ↔ Spec.admitted st := by
  simp [Station.actionable, Spec.admitted]

/-! ### The answer (R142, R182) -/

/-- After a write of the station's record, the answer carries the owner and pending owner of the new record. -/
theorem State.answerSteer_setStation (s : State) (i : StationIndex) (st : Station) (code : Code) :
    (s.setStation i st).answerSteer i code =
      (s.setStation i st).reply Kind.steerReq code (.steered i st.owner st.pendingOwner) := by
  rw [State.answerSteer, State.station_setStation_self]

/-! ### The immediate move (R144, R145) -/

section
variable {s : State} {i : StationIndex} {r : Radio}

theorem State.moveNow_off_ring (hstate : (s.station i).state = .idle ∨ (s.station i).state = .holding) :
    s.moveNow i r = s.setStation i (s.movedRecord i r) := by
  have hring : s.exitRing i = s := State.exitRing_eq_self fun hready => by simp [hready] at hstate
  rw [State.moveNow, hring]
  rcases hstate with h | h <;> rw [h]

/-- A station that is READY after its move is at the tail of the ring of its new owner and its group. -/
theorem State.moveNow_to_ring (hstate : (s.station i).state = .ready ∨ (s.station i).state = .dozing) :
    s.moveNow i r =
      ((s.exitRing i).setStation i { s.movedRecord i r with state := .ready, hold := none }).joinRing r
        (s.station i).group i := by
  have hready : s.moveNow i r = ((s.exitRing i).setStation i (s.movedRecord i r)).enterReady i := by
    rw [State.moveNow]
    rcases hstate with h | h <;> rw [h]
  rw [hready, State.enterReady, State.station_setStation_self, State.setStation_setStation]
  rfl

/-- A move leaves the station with the new owner and without a pending one, which its answer carries. -/
theorem State.answerSteer_moveNow (code : Code) :
    (s.moveNow i r).answerSteer i code =
      (s.moveNow i r).reply Kind.steerReq code (.steered i r none) := by
  obtain ⟨howner, hpending⟩ : ((s.moveNow i r).station i).owner = r ∧
      ((s.moveNow i r).station i).pendingOwner = none := by
    rw [State.moveNow]
    split <;> simp [State.movedRecord]
  rw [State.answerSteer, howner, hpending]

end

/-! ### The conditions of R142, in their order -/

section
variable {s : State} {index : BitVec 16} {i : StationIndex} {r : Radio}

theorem steerTaken_range {target : BitVec 2} (h : 512 ≤ index.toNat ∨ target = 0 ∨ target = 3) :
    steerTaken index target s = s.replyHeader Kind.steerReq .range := by
  unfold steerTaken
  rcases h with hindex | htarget
  · simp [stationOf_none hindex]
  · simp [radioOf_none htarget]

theorem steerTaken_noStation (hindex : index.toNat = i.val) (hnone : ¬ Spec.admitted (s.station i)) :
    steerTaken index (radioCode r) s = s.answerSteer i .noStation := by
  rw [← Station.actionable_iff_admitted] at hnone
  simp [steerTaken, stationOf_eq hindex, hnone]

theorem steerTaken_pinned (hindex : index.toNat = i.val) (hadmitted : Spec.admitted (s.station i))
    (hpinned : (s.station i).pinned = true) :
    steerTaken index (radioCode r) s = s.answerSteer i .pinned := by
  rw [← Station.actionable_iff_admitted] at hadmitted
  simp [steerTaken, stationOf_eq hindex, hadmitted, hpinned]

theorem steerTaken_owned (hindex : index.toNat = i.val) (hadmitted : Spec.admitted (s.station i))
    (hpinned : (s.station i).pinned = false) (howner : (s.station i).owner = r) :
    steerTaken index (radioCode r) s = s.answerSteer i .done := by
  rw [← Station.actionable_iff_admitted] at hadmitted
  simp [steerTaken, stationOf_eq hindex, hadmitted, hpinned, howner]

/-- What STEER does with a station it may move: one admitted, not pinned and owned by the other radio. -/
theorem steerTaken_movable (hindex : index.toNat = i.val) (hadmitted : Spec.admitted (s.station i))
    (hpinned : (s.station i).pinned = false) (howner : (s.station i).owner ≠ r) :
    steerTaken index (radioCode r) s =
      if (s.station i).pendingOwner ≠ none then s.answerSteer i .steering
      else if (s.station i).settle ≠ none then s.answerSteer i .tooSoon
      else if (s.station i).state = .granted then
        (s.setStation i { s.station i with pendingOwner := some r }).answerSteer i .deferred
      else (s.moveNow i r).answerSteer i .done := by
  rw [← Station.actionable_iff_admitted] at hadmitted
  simp only [steerTaken, stationOf_eq hindex, radioOf_radioCode, hadmitted, hpinned, howner,
    Option.isSome_iff_ne_none, Bool.not_true, Bool.false_eq_true, if_false]

theorem steerTaken_moved (hindex : index.toNat = i.val) (hadmitted : Spec.admitted (s.station i))
    (hpinned : (s.station i).pinned = false) (howner : (s.station i).owner ≠ r)
    (hpending : (s.station i).pendingOwner = none) (hsettle : (s.station i).settle = none)
    (hgranted : (s.station i).state ≠ .granted) :
    steerTaken index (radioCode r) s =
      (s.moveNow i r).reply Kind.steerReq .done (.steered i r none) := by
  rw [steerTaken_movable hindex hadmitted hpinned howner, if_neg (not_not.2 hpending),
    if_neg (not_not.2 hsettle), if_neg hgranted, State.answerSteer_moveNow]

end

/-- Settles O24: by the conditions of R142 in their order; the two last clauses by whether the move takes the
station to a ring. -/
theorem steerChecksThenMoves : Obligations.SteerChecksThenMoves := by
  intro s index target hopen
  have hexec : exec (.steer index target) s = .next (steerTaken index target s) :=
    State.onControl_of_open hopen _
  simp only [hexec, Spec.header_eq, Spec.sends_control, Spec.withStation_eq, Spec.leaves_eq, Spec.joins_eq]
  refine ⟨fun hrange => congrArg _ (steerTaken_range hrange), ?_⟩
  rintro i r hindex rfl
  refine ⟨?_, ?_, ?_, ?_, ?_⟩
  · exact fun hnone => congrArg _ (steerTaken_noStation hindex hnone)
  · exact fun hadmitted hpinned => congrArg _ (steerTaken_pinned hindex hadmitted hpinned)
  · exact fun hadmitted hpinned howner => congrArg _ (steerTaken_owned hindex hadmitted hpinned howner)
  · intro hadmitted hpinned howner hpending
    rw [steerTaken_movable hindex hadmitted hpinned howner, if_pos hpending]
    rfl
  · intro hadmitted hpinned howner hpending
    refine ⟨fun hsettle => ?_, fun hsettle hgranted => ?_, fun hsettle hstate => ?_,
      fun hsettle hstate => ?_⟩
    · rw [steerTaken_movable hindex hadmitted hpinned howner, if_neg (not_not.2 hpending), if_pos hsettle]
      rfl
    · rw [steerTaken_movable hindex hadmitted hpinned howner, if_neg (not_not.2 hpending),
        if_neg (not_not.2 hsettle), if_pos hgranted, State.answerSteer_setStation]
      rfl
    · have hgranted : (s.station i).state ≠ .granted := fun h => by simp [h] at hstate
      rw [steerTaken_moved hindex hadmitted hpinned howner hpending hsettle hgranted,
        State.moveNow_off_ring hstate]
      rfl
    · have hgranted : (s.station i).state ≠ .granted := fun h => by simp [h] at hstate
      rw [steerTaken_moved hindex hadmitted hpinned howner hpending hsettle hgranted,
        State.moveNow_to_ring hstate]
      rfl

end Sys2Proof.Machine
end

section
/-! The Event Unit (chapter 10): EVENT READ, EVENT CLEAR, EVENT FORCE and EVENT MASK. -/

namespace Sys2Proof.Machine

/-! ### The event line and the answer to an event request (R171, R172) -/

theorem State.eventLine_iff (s : State) : s.eventLine = true ↔ s.raw &&& s.enabled ≠ 0 := bne_iff_ne

/-- The masked set of the answer is the one of the state answered in, so it follows the flags just written. -/
theorem State.answerEvents_withSets (s : State) (raw enabled : BitVec 10) (kind : Byte) :
    { s with raw := raw, enabled := enabled }.answerEvents kind =
      Spec.sends { s with raw := raw, enabled := enabled }
        (.control kind .done (.eventSets raw enabled (raw &&& enabled))) := rfl

/-! ### The event requests (R172 to R175) -/

section
variable {s : State}

theorem exec_eventRead (hopen : Spec.controlOpen s) :
    exec .eventRead s = .next (s.answerEvents 0x15) :=
  State.onControl_of_open hopen _

theorem exec_eventClear (hopen : Spec.controlOpen s) (kinds : BitVec 10) :
    exec (.eventClear kinds) s = .next ({ s with raw := s.raw &&& ~~~kinds }.answerEvents 0x16) :=
  State.onControl_of_open hopen _

theorem exec_eventForce (hopen : Spec.controlOpen s) (kinds : BitVec 10) :
    exec (.eventForce kinds) s = .next ({ s with raw := s.raw ||| kinds }.answerEvents 0x17) :=
  State.onControl_of_open hopen _

theorem exec_eventMask (hopen : Spec.controlOpen s) (kinds : BitVec 10) :
    exec (.eventMask kinds) s = .next ({ s with enabled := kinds }.answerEvents 0x18) :=
  State.onControl_of_open hopen _

end

/-- Settles O27: each request writes the flags its rule names, and the three sets are answered as they then
stand (`State.answerEvents_withSets`). -/
theorem eventRequestsAnswerThreeSets : Obligations.EventRequestsAnswerThreeSets := by
  intro s kinds hopen
  refine ⟨?_, ?_, ?_, ?_, s.eventLine_iff⟩
  · exact (exec_eventRead hopen).trans (congrArg _ (s.answerEvents_withSets s.raw s.enabled _))
  · exact (exec_eventClear hopen kinds).trans
      (congrArg _ (s.answerEvents_withSets (s.raw &&& ~~~kinds) s.enabled _))
  · exact (exec_eventForce hopen kinds).trans
      (congrArg _ (s.answerEvents_withSets (s.raw ||| kinds) s.enabled _))
  · exact (exec_eventMask hopen kinds).trans (congrArg _ (s.answerEvents_withSets s.raw kinds _))

end Sys2Proof.Machine
end

section
/-! What the operations on station records leave alone. Each of them writes station records, rings, the
release list and raw flags at most, and loses no raw flag. -/

namespace Sys2Proof.Machine

/-! ### Raw flags stay (R170) -/

/-- Every raw flag set in `s` is set in `t`. -/
def State.FlagsStay (s t : State) : Prop := s.raw &&& t.raw = s.raw

theorem State.FlagsStay.of_raw_eq {s t : State} (h : t.raw = s.raw) : s.FlagsStay t := by
  rw [State.FlagsStay, h, BitVec.and_self]

theorem State.FlagsStay.of_raw_or {s t : State} (flags : BitVec 10) (h : t.raw = s.raw ||| flags) :
    s.FlagsStay t := by
  rw [State.FlagsStay, h]
  ext k
  simp
  tauto

theorem State.FlagsStay.trans {s t u : State} (h : s.FlagsStay t) (h' : t.FlagsStay u) : s.FlagsStay u := by
  rw [State.FlagsStay] at *
  rw [← h, BitVec.and_assoc, h']

/-! ### The frame of the operations on stations and radios -/

/-- Between `s` and `t` only station records, radios, the release list and raw flags change, and every raw flag
stays. -/
structure State.RestKept (s t : State) : Prop where
  scanCursor : t.scanCursor = s.scanCursor
  msClock : t.msClock = s.msClock
  msPhase : t.msPhase = s.msPhase
  profile : t.profile = s.profile
  stack : t.stack = s.stack
  device : t.device = s.device
  enabled : t.enabled = s.enabled
  control : t.control = s.control
  resetAnswerDue : t.resetAnswerDue = s.resetAnswerDue
  resetInput : t.resetInput = s.resetInput
  freezeInput : t.freezeInput = s.freezeInput
  choices : t.choices = s.choices
  pending : t.pending = s.pending
  flags : s.FlagsStay t

namespace State.RestKept

theorem refl (s : State) : s.RestKept s := by
  constructor <;> simp [State.FlagsStay]

theorem trans {s t u : State} (h : s.RestKept t) (h' : t.RestKept u) : s.RestKept u where
  scanCursor := h'.scanCursor.trans h.scanCursor
  msClock := h'.msClock.trans h.msClock
  msPhase := h'.msPhase.trans h.msPhase
  profile := h'.profile.trans h.profile
  stack := h'.stack.trans h.stack
  device := h'.device.trans h.device
  enabled := h'.enabled.trans h.enabled
  control := h'.control.trans h.control
  resetAnswerDue := h'.resetAnswerDue.trans h.resetAnswerDue
  resetInput := h'.resetInput.trans h.resetInput
  freezeInput := h'.freezeInput.trans h.freezeInput
  choices := h'.choices.trans h.choices
  pending := h'.pending.trans h.pending
  flags := h.flags.trans h'.flags

theorem setStation (s : State) (i : StationIndex) (st : Station) : s.RestKept (s.setStation i st) := by
  constructor <;> simp [State.FlagsStay]

theorem setRadio (s : State) (r : Radio) (u : RadioUnit) : s.RestKept (s.setRadio r u) := by
  constructor <;> simp [State.FlagsStay]

theorem raise (s : State) (k : EventKind) : s.RestKept (s.raise k) := by
  constructor
  case flags => exact .of_raw_or k.set rfl
  all_goals simp

theorem raiseIf (s : State) (c : Prop) [Decidable c] (k : EventKind) : s.RestKept (s.raiseIf c k) := by
  unfold State.raiseIf
  split
  · exact raise s k
  · exact refl s

theorem answer (s : State) (r : Radio) (a : Answer) : s.RestKept (s.answer (.radio r) a) := setRadio ..

end State.RestKept

/-- Between `s` and `t` only station records, rings, the release list and raw flags change, and every raw flag
stays. -/
structure State.StationWork (s t : State) : Prop extends s.RestKept t where
  radio : ∀ r, t.radio r = { s.radio r with rings := (t.radio r).rings }

namespace State.StationWork

theorem refl (s : State) : s.StationWork s := ⟨.refl s, fun _ => rfl⟩

theorem trans {s t u : State} (h : s.StationWork t) (h' : t.StationWork u) : s.StationWork u :=
  ⟨h.toRestKept.trans h'.toRestKept, fun r => by rw [h'.radio r, h.radio r]⟩

/-- A station operation changes no port. -/
theorem port {s t : State} (h : s.StationWork t) (l : Link) : t.port l = s.port l := by
  cases l with
  | control => exact h.control
  | radio r => rw [State.port, h.radio r]; rfl

theorem setStation (s : State) (i : StationIndex) (st : Station) : s.StationWork (s.setStation i st) :=
  ⟨.setStation .., fun r => by simp⟩

theorem setRing (s : State) (r : Radio) (g : GroupIndex) (ring : List StationIndex) :
    s.StationWork (s.setRing r g ring) := by
  refine ⟨.setRadio .., fun q => ?_⟩
  by_cases h : r = q
  · subst h; simp
  · simp [State.setRing_radio_ne s g ring h]

theorem raise (s : State) (k : EventKind) : s.StationWork (s.raise k) := ⟨.raise .., fun r => by simp⟩

theorem raiseIf (s : State) (c : Prop) [Decidable c] (k : EventKind) : s.StationWork (s.raiseIf c k) :=
  ⟨.raiseIf .., fun r => by simp⟩

theorem retireAll (s : State) (ns : List Notice) : s.StationWork (s.retireAll ns) := by
  refine ⟨?_, fun r => by simp⟩
  rw [State.retireAll_eq]
  have appended : s.RestKept { s with releaseList := s.releaseList ++ ns } := by
    constructor <;> simp [State.FlagsStay]
  exact appended.trans (.raiseIf ..)

theorem joinRing (s : State) (r : Radio) (g : GroupIndex) (i : StationIndex) :
    s.StationWork (s.joinRing r g i) := setRing ..

theorem leaveRing (s : State) (r : Radio) (g : GroupIndex) (i : StationIndex) :
    s.StationWork (s.leaveRing r g i) := setRing ..

theorem exitRing (s : State) (i : StationIndex) : s.StationWork (s.exitRing i) := by
  unfold State.exitRing
  split
  · exact leaveRing ..
  · exact refl s

theorem enterReady (s : State) (i : StationIndex) : s.StationWork (s.enterReady i) :=
  (setStation ..).trans (joinRing ..)

theorem retireQueue (s : State) (i : StationIndex) (reason : Reason) :
    s.StationWork (s.retireQueue i reason) := (setStation ..).trans (retireAll ..)

/-! ### Requests that name a station -/

theorem dismissNow (s : State) (i : StationIndex) : s.StationWork (s.dismissNow i) :=
  (exitRing s i).trans ((retireQueue ..).trans (setStation ..))

theorem dismissLater (s : State) (i : StationIndex) : s.StationWork (s.dismissLater i) :=
  (retireQueue ..).trans (setStation ..)

theorem changeGroup (s : State) (i : StationIndex) (g : GroupIndex) : s.StationWork (s.changeGroup i g) := by
  unfold State.changeGroup
  split
  · exact (exitRing s i).trans ((setStation ..).trans (joinRing ..))
  · exact setStation ..

theorem moveNow (s : State) (i : StationIndex) (r : Radio) : s.StationWork (s.moveNow i r) := by
  have moved := (exitRing s i).trans (setStation _ i (s.movedRecord i r))
  unfold State.moveNow
  split
  · exact moved.trans (enterReady ..)
  · exact moved.trans (enterReady ..)
  · exact moved

theorem purgeStation (s : State) (i : StationIndex) : s.StationWork (s.purgeStation i) := by
  have purged := (exitRing s i).trans (retireQueue _ i .purged)
  unfold State.purgeStation
  split
  · exact purged
  · exact purged.trans (setStation ..)

theorem notePower (s : State) (i : StationIndex) (p : Power) : s.StationWork (s.notePower i p) := by
  unfold State.notePower
  split
  · exact (exitRing s i).trans (setStation ..)
  · exact (exitRing s i).trans (setStation ..)
  · exact (setStation ..).trans (enterReady ..)
  · exact setStation ..

theorem noteStation (s : State) (i : StationIndex) (power : PowerPart) (rate : BitVec 16) :
    s.StationWork (s.noteStation i power rate) := by
  unfold State.noteStation
  cases power with
  | value p => exact (setStation ..).trans (notePower ..)
  | absent | invalid => exact setStation ..

/-! ### QUEUE -/

theorem acceptEntry (s : State) (i : StationIndex) (e : QueueEntry) : s.StationWork (s.acceptEntry i e) :=
  (setStation ..).trans (raiseIf ..)

theorem evaluateEntries (s : State) (i : StationIndex) (es : List QueueEntry) :
    s.StationWork (s.evaluateEntries i es).1 := by
  induction es generalizing s with
  | nil => exact refl s
  | cons e es ih =>
    unfold State.evaluateEntries
    refine StationWork.trans ?_ (ih _)
    split
    · exact acceptEntry ..
    · exact refl s

theorem queueGrew (s : State) (i : StationIndex) : s.StationWork (s.queueGrew i) := by
  unfold State.queueGrew
  simp only
  split
  · split
    · exact setStation ..
    · split
      · exact enterReady ..
      · exact setStation ..
  · split
    · exact enterReady ..
    · exact refl s
  · exact refl s

theorem queueEntries (s : State) (i : StationIndex) (es : List QueueEntry) :
    s.StationWork (s.queueEntries i es).1 := by
  unfold State.queueEntries
  simp only
  split
  · exact (evaluateEntries ..).trans (queueGrew ..)
  · exact evaluateEntries ..

/-! ### The end of a grant and a visit -/

theorem settleFrames (s : State) (i : StationIndex) (fates : List Fate) :
    s.StationWork (s.settleFrames i fates) := (setStation ..).trans (retireAll ..)

theorem applyPending (s : State) (i : StationIndex) : s.StationWork (s.applyPending i) := by
  unfold State.applyPending
  split
  · exact refl s
  · exact (setStation ..).trans (raise ..)

theorem chooseNext (s : State) (i : StationIndex) : s.StationWork (s.chooseNext i) := by
  unfold State.chooseNext
  split
  · exact setStation ..
  · split
    · exact setStation ..
    · exact enterReady ..

theorem handOver (s : State) (i : StationIndex) : s.StationWork (s.handOver i) := by
  unfold State.handOver
  simp only
  refine (setStation s i { s.station i with grantTag := none }).trans ?_
  split
  · exact (setStation ..).trans (raise ..)
  · exact (applyPending ..).trans (chooseNext ..)

theorem dropFrames (s : State) (i : StationIndex) (drops : List Notice) (kept : List Slot) :
    s.StationWork (s.dropFrames i drops kept) := (setStation ..).trans (retireAll ..)

theorem headDrops (s : State) (r : Radio) (i : StationIndex) : s.StationWork (s.headDrops r i) :=
  dropFrames ..

theorem rotateRing (s : State) (r : Radio) (g : GroupIndex) : s.StationWork (s.rotateRing r g) := setRing ..

theorem visitCredit (s : State) (r : Radio) (g : GroupIndex) (i : StationIndex) :
    s.StationWork (s.visitCredit r g i) := (rotateRing ..).trans (setStation ..)

theorem lendTo (s : State) (r : Radio) (g : Grant) : s.StationWork (s.lendTo r g) :=
  (leaveRing ..).trans (setStation ..)

end State.StationWork

/-! ### The end of a grant (R111), its record apart -/

/-- Between `s` and `t` only station records, rings, the group counters of one radio, the release list and raw
flags change; every raw flag stays, and rings gain members at their tails alone. -/
structure State.EndWork (r : Radio) (s t : State) : Prop extends s.RestKept t where
  self : t.radio r =
    { s.radio r with
      rings := (t.radio r).rings, usage := (t.radio r).usage, borrowed := (t.radio r).borrowed }
  other : ∀ q, q ≠ r → t.radio q = { s.radio q with rings := (t.radio q).rings }
  grow : ∀ q g, (s.radio q).ring g <+: (t.radio q).ring g

namespace State.EndWork

variable {r : Radio}

theorem trans {s t u : State} (h : s.EndWork r t) (h' : t.EndWork r u) : s.EndWork r u where
  toRestKept := h.toRestKept.trans h'.toRestKept
  self := by rw [h'.self, h.self]
  other q hq := by rw [h'.other q hq, h.other q hq]
  grow q g := (h.grow q g).trans (h'.grow q g)

theorem of_stationWork {s t : State} (h : s.StationWork t)
    (grow : ∀ q g, (s.radio q).ring g <+: (t.radio q).ring g) : s.EndWork r t :=
  ⟨h.toRestKept, by rw [h.radio r], fun q _ => h.radio q, grow⟩

theorem refl (s : State) : s.EndWork r s :=
  of_stationWork (.refl s) fun _ _ => List.prefix_rfl

theorem grants {s t : State} (h : s.EndWork r t) (q : Radio) : (t.radio q).grants = (s.radio q).grants := by
  by_cases hq : q = r
  · subst hq; rw [h.self]
  · rw [h.other q hq]

theorem port {s t : State} (h : s.EndWork r t) (l : Link) : t.port l = s.port l := by
  cases l with
  | control => exact h.control
  | radio q =>
    by_cases hq : q = r
    · subst hq; rw [State.port, h.self]; rfl
    · rw [State.port, h.other q hq]; rfl

theorem setStation (s : State) (i : StationIndex) (st : Station) : s.EndWork r (s.setStation i st) :=
  of_stationWork (.setStation ..) fun q g => by simp

theorem raise (s : State) (k : EventKind) : s.EndWork r (s.raise k) :=
  of_stationWork (.raise ..) fun q g => by simp

theorem raiseIf (s : State) (c : Prop) [Decidable c] (k : EventKind) : s.EndWork r (s.raiseIf c k) :=
  of_stationWork (.raiseIf ..) fun q g => by simp

theorem retireAll (s : State) (ns : List Notice) : s.EndWork r (s.retireAll ns) :=
  of_stationWork (.retireAll ..) fun q g => by simp

theorem joinRing (s : State) (p : Radio) (k : GroupIndex) (i : StationIndex) :
    s.EndWork r (s.joinRing p k i) := by
  refine of_stationWork (.joinRing ..) fun q g => ?_
  by_cases hq : p = q
  · subst hq
    by_cases hg : k = g
    · subst hg
      rw [State.joinRing_ring_self]
      exact List.prefix_append ..
    · have hval : k.val ≠ g.val := fun e => hg (Fin.ext e)
      simp [State.joinRing, State.setRing, RadioUnit.ring, Vector.getElem_set_ne, hval]
  · rw [State.joinRing, State.setRing_radio_ne s k _ hq]

theorem enterReady (s : State) (i : StationIndex) : s.EndWork r (s.enterReady i) :=
  (setStation ..).trans (joinRing ..)

theorem settleFrames (s : State) (i : StationIndex) (fates : List Fate) :
    s.EndWork r (s.settleFrames i fates) := (setStation ..).trans (retireAll ..)

theorem chooseNext (s : State) (i : StationIndex) : s.EndWork r (s.chooseNext i) := by
  unfold State.chooseNext
  split
  · exact setStation ..
  · split
    · exact setStation ..
    · exact enterReady ..

theorem applyPending (s : State) (i : StationIndex) : s.EndWork r (s.applyPending i) := by
  unfold State.applyPending
  split
  · exact refl s
  · exact (setStation ..).trans (raise ..)

theorem handOver (s : State) (i : StationIndex) : s.EndWork r (s.handOver i) := by
  unfold State.handOver
  simp only
  refine (setStation s i { s.station i with grantTag := none }).trans ?_
  split
  · exact (setStation ..).trans (raise ..)
  · exact (applyPending ..).trans (chooseNext ..)

/-- Writing the group counters of the radio. -/
theorem setCounters (s : State) (usage borrowed : Vector Nat 4) :
    s.EndWork r (s.setRadio r { s.radio r with usage := usage, borrowed := borrowed }) where
  toRestKept := .setRadio ..
  self := by simp
  other q hq := by rw [State.radio_setRadio_ne s _ hq.symm]
  grow q g := by
    rw [State.radio_setRadio]
    split
    · next h => subst h; exact List.prefix_rfl
    · exact List.prefix_rfl

theorem setUsage (s : State) (g : GroupIndex) (n : Nat) : s.EndWork r (s.setUsage r g n) :=
  setCounters ..

theorem setBorrowed (s : State) (g : GroupIndex) (n : Nat) : s.EndWork r (s.setBorrowed r g n) :=
  setCounters ..

theorem chargeCounter (s : State) (g : GroupIndex) (pass : PassKind) (n : Nat) :
    s.EndWork r (s.chargeCounter r g pass n) := by
  cases pass with
  | cap => exact (setUsage ..).trans (raiseIf ..)
  | borrow => exact setBorrowed ..

theorem refundCounter (s : State) (g : GroupIndex) (pass : PassKind) (n : Nat) :
    s.EndWork r (s.refundCounter r g pass n) := by
  cases pass with
  | cap => exact setUsage ..
  | borrow => exact setBorrowed ..

theorem correctCounter (s : State) (g : GroupIndex) (pass : PassKind) (actual est : Nat) :
    s.EndWork r (s.correctCounter r g pass actual est) := by
  unfold State.correctCounter
  split
  · exact chargeCounter ..
  · exact refundCounter ..

end State.EndWork

/-- A grant end as withdrawn, its last step apart (R120). -/
theorem State.endWithdrawn_eq (s : State) (r : Radio) (g : Grant) :
    ∃ u, s.EndWork r u ∧ s.endWithdrawn r g = u.dropGrant r g.tag :=
  ⟨_, (EndWork.settleFrames ..).trans (((EndWork.setStation ..).trans (EndWork.refundCounter ..)).trans
    (EndWork.handOver ..)), rfl⟩

/-- A grant end by REPORT, its last step apart (R114 to R118). -/
theorem State.endReported_eq (s : State) (r : Radio) (g : Grant) (actual : Nat) (rate : BitVec 16)
    (outcomes : List FrameOutcome) :
    ∃ u, s.EndWork r u ∧ s.endReported r g actual rate outcomes = u.dropGrant r g.tag :=
  ⟨_, ((EndWork.settleFrames ..).trans (EndWork.correctCounter ..)).trans ((EndWork.setStation ..).trans
    (EndWork.handOver ..)), rfl⟩

/-- One timeout counted (R106). -/
def State.countTimeout (s : State) (r : Radio) : State :=
  s.setRadio r { s.radio r with
    counters := { (s.radio r).counters with timeouts := (s.radio r).counters.timeouts + 1 } }

/-- A grant end by timeout, its last steps apart: the record is freed, the timeout counted and reported
(R121). -/
theorem State.endTimedOut_eq (s : State) (r : Radio) (g : Grant) :
    ∃ u, s.EndWork r u ∧ s.StationWork u ∧
      s.endTimedOut r g = ((u.dropGrant r g.tag).countTimeout r).raise (timeoutEvent r) :=
  ⟨_, (EndWork.settleFrames ..).trans ((EndWork.setStation ..).trans (EndWork.handOver ..)),
    (StationWork.settleFrames ..).trans ((StationWork.setStation ..).trans (StationWork.handOver ..)), rfl⟩

end Sys2Proof.Machine
end

section
/-! What a command's meaning comes to: taken, ignored or refused. What every command and the counting of the
timers keep, every step keeps. -/

namespace Sys2Proof.Machine

/-! ### Taken, ignored or refused (R160, R163, R168) -/

section
variable {P : State → Prop} {s act t : State}

theorem State.onControl_keeps (e : s.onControl act = .next t) (h : P s)
    (taken : s.ignores .control = false → P act) : P t := by
  cases ignored : s.ignores .control with
  | true => rw [State.onControl_ignored ignored] at e; cases e; exact h
  | false => rw [State.onControl_taken ignored] at e; cases e; exact taken ignored

theorem State.onRadio_keeps {r : Radio} {kind : Byte} (e : s.onRadio r kind act = .next t) (h : P s)
    (refused : s.ignores (.radio r) = false → P (s.refuseRadio r kind .linkDown))
    (taken : s.ignores (.radio r) = false → (s.radio r).linkUp = true → P act) : P t := by
  cases ignored : s.ignores (.radio r) with
  | true => rw [State.onRadio_ignored ignored] at e; cases e; exact h
  | false =>
    cases up : (s.radio r).linkUp with
    | true => rw [State.onRadio_taken ignored up] at e; cases e; exact taken ignored up
    | false => rw [State.onRadio_down ignored up] at e; cases e; exact refused ignored

theorem State.onExpiry_keeps (e : s.onExpiry act = .next t) (h : P s)
    (running : s.timersStopped = false → P act) : P t := by
  cases stopped : s.timersStopped with
  | true => rw [State.onExpiry_stopped stopped] at e; cases e; exact h
  | false => rw [State.onExpiry_running stopped] at e; cases e; exact running stopped

/-- A request that names a station is refused with its header alone or acts on that station. -/
theorem State.onStation_keeps {kind : Byte} {index : BitVec 16} {act : StationIndex → State}
    (refused : ∀ code, P (s.replyHeader kind code))
    (taken : ∀ i, (s.station i).actionable = true → P (act i)) : P (s.onStation kind index act) := by
  unfold State.onStation
  split
  · exact refused _
  · split
    · next ok => exact taken _ ok
    · exact refused _

/-- A port's command is ignored or has its effect (R168, R169). -/
theorem ignored_keeps {l : Link} (e : (.next (if s.ignores l then s else act) : Result) = .next t) (h : P s)
    (taken : s.ignores l = false → P act) : P t := by
  cases e
  cases ignored : s.ignores l with
  | true => simpa using h
  | false => simpa using taken ignored

end

/-- Every command has a next state. -/
theorem exec_next (c : Instr) (s : State) : ∃ t, exec c s = .next t := by
  cases c
  case answerSent l =>
    change ∃ t, execAnswerSent l s = .next t
    unfold execAnswerSent
    split <;> exact ⟨_, rfl⟩
  all_goals exact ⟨_, rfl⟩

theorem takeAll_next (cs : List Instr) (s : State) : ∃ t, takeAll cs s = .next t := by
  induction cs generalizing s with
  | nil => exact ⟨s, rfl⟩
  | cons c cs ih =>
    obtain ⟨t, ht⟩ := exec_next c s
    obtain ⟨u, hu⟩ := ih t
    exact ⟨u, by rw [takeAll, ht]; exact hu⟩

/-! ### One step -/

/-- A step takes the front command with the queue's rest, or lets one cycle of the clock pass. -/
theorem step_keeps {P : State → Prop} {s t : State}
    (exec_keeps : ∀ c a b, P a → exec c a = .next b → P b)
    (queue : ∀ a cs, P a → P { a with pending := cs })
    (counted : ∀ a n, P a → P { a.counted with choices := n }) (h : P s) (e : step s = .next t) : P t := by
  unfold step at e
  split at e
  · exact State.tick_keeps (fun n => counted s n h) (fun c _ a b => exec_keeps c a b) e
  · exact exec_keeps _ _ _ (queue _ _ h) e

theorem step_nil {s : State} (h : s.pending = []) : step s = s.tick := by
  unfold step
  rw [h]

/-- Settles O1. -/
theorem stepTakesFrontCommand : Obligations.StepTakesFrontCommand := by
  intro c rest s h
  unfold step
  rw [h]

/-! ### Answers -/

/-- From `s` to `t` only station records, rings, the release list and raw flags change, and one answer more
stands on a link. -/
def State.AnswersOn (l : Link) (s t : State) : Prop := ∃ u a, s.StationWork u ∧ t = u.answer l a

theorem State.StationWork.answersOn {s u : State} (h : s.StationWork u) (l : Link) (a : Answer) :
    s.AnswersOn l (u.answer l a) := ⟨u, a, h, rfl⟩

theorem State.answersOn_reply (s : State) (kind : Byte) (code : Code) (body : Body) :
    s.AnswersOn .control (s.reply kind code body) := (State.StationWork.refl s).answersOn ..

theorem State.answersOn_refuseRadio (s : State) (r : Radio) (kind : Byte) (code : Code) :
    s.AnswersOn (.radio r) (s.refuseRadio r kind code) := (State.StationWork.refl s).answersOn ..

theorem State.raise_answer (s : State) (l : Link) (a : Answer) (k : EventKind) :
    (s.answer l a).raise k = (s.raise k).answer l a := by
  cases l with
  | control => rfl
  | radio r => cases r <;> rfl

theorem State.answersOn_refuseMalformed (s : State) (l : Link) (kind : Byte) :
    s.AnswersOn l (s.refuseMalformed l kind) := by
  cases l with
  | control => exact ⟨s.raise .malformed, _, .raise .., State.raise_answer ..⟩
  | radio r => exact ⟨s.raise .malformed, _, .raise .., State.raise_answer ..⟩

section
variable (s : State)

theorem admitTaken_answers (index : BitVec 16) (ssid : Byte) (owner : BitVec 2) (pinned : Bool)
    (role weight : Byte) (rate : BitVec 16) :
    s.AnswersOn .control (admitTaken index ssid owner pinned role weight rate s) := by
  unfold admitTaken
  split
  · split
    · exact State.answersOn_reply ..
    · split
      · exact State.answersOn_reply ..
      · split
        · exact State.answersOn_reply ..
        · exact (State.StationWork.setStation ..).answersOn ..
  · exact State.answersOn_reply ..

theorem dismissTaken_answers (index : BitVec 16) : s.AnswersOn .control (dismissTaken index s) := by
  unfold dismissTaken
  split
  · exact State.answersOn_reply ..
  · split
    · exact State.answersOn_reply ..
    · refine State.StationWork.answersOn ?_ ..
      split
      · exact .refl s
      · exact .dismissLater ..
    · exact (State.StationWork.dismissNow ..).answersOn ..

theorem tuneTaken_answers (index : BitVec 16) (weight : Byte) :
    s.AnswersOn .control (tuneTaken index weight s) :=
  State.onStation_keeps (fun _ => State.answersOn_reply ..)
    fun _ _ => (State.StationWork.setStation ..).answersOn ..

theorem rematchTaken_answers (index : BitVec 16) : s.AnswersOn .control (rematchTaken index s) := by
  refine State.onStation_keeps (fun _ => State.answersOn_reply ..) fun i _ => ?_
  split
  · exact State.answersOn_reply ..
  · refine State.StationWork.answersOn ?_ ..
    split
    · exact .refl s
    · exact .changeGroup ..

theorem pinTaken_answers (index : BitVec 16) : s.AnswersOn .control (pinTaken index s) := by
  refine State.onStation_keeps (fun _ => State.answersOn_reply ..) fun i _ => ?_
  split
  · exact State.answersOn_reply ..
  · exact (State.StationWork.setStation ..).answersOn ..

theorem unpinTaken_answers (index : BitVec 16) : s.AnswersOn .control (unpinTaken index s) :=
  State.onStation_keeps (fun _ => State.answersOn_reply ..)
    fun _ _ => (State.StationWork.setStation ..).answersOn ..

theorem stationReadTaken_answers (index : BitVec 16) : s.AnswersOn .control (stationReadTaken index s) := by
  unfold stationReadTaken
  split <;> exact State.answersOn_reply ..

theorem queueTaken_answers (index : BitVec 16) (es : List QueueEntry) :
    s.AnswersOn .control (queueTaken index es s) := by
  unfold queueTaken
  split
  · exact State.answersOn_refuseMalformed ..
  · split
    · exact State.answersOn_reply ..
    · split
      · exact State.answersOn_reply ..
      · exact (State.StationWork.queueEntries ..).answersOn ..

theorem purgeTaken_answers (index : BitVec 16) : s.AnswersOn .control (purgeTaken index s) :=
  State.onStation_keeps (fun _ => State.answersOn_reply ..)
    fun _ _ => (State.StationWork.purgeStation ..).answersOn ..

theorem groupReadTaken_answers (group : Byte) : s.AnswersOn .control (groupReadTaken group s) := by
  unfold groupReadTaken
  split <;> exact State.answersOn_reply ..

theorem radioReadTaken_answers (radio : BitVec 2) : s.AnswersOn .control (radioReadTaken radio s) := by
  unfold radioReadTaken
  split <;> exact State.answersOn_reply ..

/-- STEER is refused or has nothing to do, or it waits for a grant's end, or it moves the station (R142). -/
theorem steerTaken_keeps {P : State → Prop} {s : State} {index : BitVec 16} {target : BitVec 2}
    (range : P (s.replyHeader Kind.steerReq .range)) (held : ∀ i code, P (s.answerSteer i code))
    (deferred : ∀ i r, Spec.admitted (s.station i) → (s.station i).pinned = false →
      (s.station i).owner ≠ r → (s.station i).pendingOwner = none → (s.station i).settle = none →
      (s.station i).state = .granted →
      P ((s.setStation i { s.station i with pendingOwner := some r }).answerSteer i .deferred))
    (moved : ∀ i r, Spec.admitted (s.station i) → (s.station i).pinned = false →
      (s.station i).owner ≠ r → (s.station i).pendingOwner = none → (s.station i).settle = none →
      (s.station i).state ≠ .granted → P ((s.moveNow i r).answerSteer i .done)) :
    P (steerTaken index target s) := by
  unfold steerTaken
  split
  · next i r _ _ =>
    split
    · exact held ..
    · next actionable =>
      have admitted : Spec.admitted (s.station i) := by
        rwa [Bool.not_eq_true', Bool.not_eq_false, Station.actionable_iff_admitted] at actionable
      split
      · exact held ..
      · next pinned =>
        rw [Bool.not_eq_true] at pinned
        split
        · exact held ..
        · next owner =>
          split
          · exact held ..
          · next pending =>
            rw [Option.not_isSome_iff_eq_none] at pending
            split
            · exact held ..
            · next settle =>
              rw [Option.not_isSome_iff_eq_none] at settle
              split
              · next granted => exact deferred i r admitted pinned owner pending settle granted
              · next granted => exact moved i r admitted pinned owner pending settle granted
  · exact range

theorem steerTaken_answers (index : BitVec 16) (target : BitVec 2) :
    s.AnswersOn .control (steerTaken index target s) :=
  steerTaken_keeps (State.answersOn_reply ..) (fun _ _ => State.answersOn_reply ..)
    (fun _ _ _ _ _ _ _ _ => (State.StationWork.setStation ..).answersOn ..)
    fun _ _ _ _ _ _ _ _ => (State.StationWork.moveNow ..).answersOn ..

theorem noteTaken_answers (r : Radio) (index : BitVec 16) (power : BitVec 2) (rate : BitVec 16) :
    s.AnswersOn (.radio r) (noteTaken r index power rate s) := by
  unfold noteTaken
  split
  · exact State.answersOn_refuseMalformed ..
  · split
    · exact State.answersOn_refuseRadio ..
    · split
      · exact State.answersOn_refuseRadio ..
      · split
        · exact State.answersOn_refuseRadio ..
        · exact (State.StationWork.noteStation ..).answersOn ..

theorem malformedTaken_answers (l : Link) (kind : Byte) : s.AnswersOn l (malformedTaken l kind s) := by
  unfold malformedTaken
  split
  · exact State.answersOn_refuseMalformed ..
  · split
    · exact State.answersOn_refuseRadio ..
    · exact State.answersOn_refuseMalformed ..

end

/-! ### Control Link requests that write settings, the cursor, the release list or flags -/

/-- What such a request writes before it is answered. -/
inductive State.ControlWrite (s : State) : State → Prop where
  | nothing : ControlWrite s s
  | scanCursor (cursor : StationIndex) : ControlWrite s { s with scanCursor := cursor }
  | collected (n : Nat) : ControlWrite s { s with releaseList := s.releaseList.drop n }
  | group (g : GroupIndex) (b : GroupBlock) :
      ControlWrite s { s with profile := s.profile.set g (groupSettingsOf b) }
  | saved (room : s.stack.length < Config.stackDepth) :
      ControlWrite s { s with stack := s.profile :: s.stack }
  | restored (p : Profile) (rest : List Profile) (h : s.stack = p :: rest) :
      ControlWrite s { s with profile := p, stack := rest }
  | radio (r : Radio) (b : RadioBlock) :
      ControlWrite s (s.setRadio r { s.radio r with settings := radioSettingsOf b })
  | device (b : DeviceBlock) (mode : FreezeMode) :
      ControlWrite s { s with device := deviceSettingsOf b mode }
  | forced (kinds : BitVec 10) : ControlWrite s { s with raw := s.raw ||| kinds }
  | masked (kinds : BitVec 10) : ControlWrite s { s with enabled := kinds }

/-- From `s` to `t` one such write is made, and one answer more stands on the Control Link. -/
def State.WritesAndAnswers (s t : State) : Prop :=
  ∃ u a, s.ControlWrite u ∧ t = u.answer .control a

section
variable (s : State)

theorem State.writes_replyHeader (kind : Byte) (code : Code) :
    s.WritesAndAnswers (s.replyHeader kind code) := ⟨s, _, .nothing, rfl⟩

theorem stationScanTaken_writes (count : BitVec 4) (restart : Bool) :
    s.WritesAndAnswers (stationScanTaken count restart s) := by
  unfold stationScanTaken
  split
  · exact State.writes_replyHeader ..
  · exact ⟨_, _, .scanCursor _, rfl⟩

theorem collectTaken_writes (count : Byte) : s.WritesAndAnswers (collectTaken count s) := by
  unfold collectTaken
  split
  · exact State.writes_replyHeader ..
  · exact ⟨_, _, .collected _, rfl⟩

theorem groupSetTaken_writes (group : Byte) (block : GroupBlock) :
    s.WritesAndAnswers (groupSetTaken group block s) := by
  unfold groupSetTaken
  split
  · exact State.writes_replyHeader ..
  · exact ⟨_, _, .group .., rfl⟩

theorem profileSaveTaken_writes : s.WritesAndAnswers (profileSaveTaken s) := by
  unfold profileSaveTaken
  split
  · exact State.writes_replyHeader ..
  · next h => exact ⟨_, _, .saved (not_le.1 h), rfl⟩

theorem profileRestoreTaken_writes : s.WritesAndAnswers (profileRestoreTaken s) := by
  unfold profileRestoreTaken
  split
  · exact State.writes_replyHeader ..
  · next p rest h => exact ⟨_, _, .restored p rest h, rfl⟩

theorem radioSetTaken_writes (radio : BitVec 2) (block : RadioBlock) :
    s.WritesAndAnswers (radioSetTaken radio block s) := by
  unfold radioSetTaken
  split
  · exact State.writes_replyHeader ..
  · exact ⟨_, _, .radio .., rfl⟩

theorem deviceSetTaken_writes (block : DeviceBlock) : s.WritesAndAnswers (deviceSetTaken block s) := by
  unfold deviceSetTaken
  split
  · exact State.writes_replyHeader ..
  · exact ⟨_, _, .device .., rfl⟩

end

/-- What a Control Link request but DEVICE RESET does when it is taken: a station operation or a write, and one
answer. EVENT CLEAR is the one that takes flags back. -/
inductive State.RequestTaken (c : Instr) (s : State) : State → Prop where
  | answers {t : State} (h : s.AnswersOn .control t) : RequestTaken c s t
  | writes {t : State} (h : s.WritesAndAnswers t) : RequestTaken c s t
  | cleared (kinds : BitVec 10) (a : Answer) (h : c = .eventClear kinds) :
      RequestTaken c s ({ s with raw := s.raw &&& ~~~kinds }.answer .control a)

/-- Every Control Link request but DEVICE RESET is ignored or taken. -/
theorem exec_control_request {c : Instr} {s : State} (h : requestLink c = some .control)
    (hreset : c ≠ .deviceReset) : ∃ t, exec c s = s.onControl t ∧ s.RequestTaken c t := by
  cases c with
  | admitStation => exact ⟨_, rfl, .answers (admitTaken_answers ..)⟩
  | dismiss => exact ⟨_, rfl, .answers (dismissTaken_answers ..)⟩
  | tune => exact ⟨_, rfl, .answers (tuneTaken_answers ..)⟩
  | rematch => exact ⟨_, rfl, .answers (rematchTaken_answers ..)⟩
  | pin => exact ⟨_, rfl, .answers (pinTaken_answers ..)⟩
  | unpin => exact ⟨_, rfl, .answers (unpinTaken_answers ..)⟩
  | stationRead => exact ⟨_, rfl, .answers (stationReadTaken_answers ..)⟩
  | stationScan => exact ⟨_, rfl, .writes (stationScanTaken_writes ..)⟩
  | queue => exact ⟨_, rfl, .answers (queueTaken_answers ..)⟩
  | purge => exact ⟨_, rfl, .answers (purgeTaken_answers ..)⟩
  | collect => exact ⟨_, rfl, .writes (collectTaken_writes ..)⟩
  | groupSet => exact ⟨_, rfl, .writes (groupSetTaken_writes ..)⟩
  | groupRead => exact ⟨_, rfl, .answers (groupReadTaken_answers ..)⟩
  | profileSave => exact ⟨_, rfl, .writes (profileSaveTaken_writes _)⟩
  | profileRestore => exact ⟨_, rfl, .writes (profileRestoreTaken_writes _)⟩
  | radioSet => exact ⟨_, rfl, .writes (radioSetTaken_writes ..)⟩
  | radioRead => exact ⟨_, rfl, .answers (radioReadTaken_answers ..)⟩
  | steer => exact ⟨_, rfl, .answers (steerTaken_answers ..)⟩
  | deviceSet => exact ⟨_, rfl, .writes (deviceSetTaken_writes ..)⟩
  | deviceRead => exact ⟨_, rfl, .answers (State.answersOn_reply ..)⟩
  | eventRead => exact ⟨_, rfl, .answers (State.answersOn_reply ..)⟩
  | eventClear kinds => exact ⟨_, rfl, .cleared kinds _ rfl⟩
  | eventForce kinds => exact ⟨_, rfl, .writes ⟨_, _, .forced kinds, rfl⟩⟩
  | eventMask kinds => exact ⟨_, rfl, .writes ⟨_, _, .masked kinds, rfl⟩⟩
  | deviceReset => exact absurd rfl hreset
  | _ => exact absurd h (by simp [requestLink])

/-- What is kept by an ignored request and by a taken one is kept by every Control Link request but DEVICE
RESET. -/
theorem exec_control_keeps {P : State → Prop} {c : Instr} {s t : State}
    (h : requestLink c = some .control) (hreset : c ≠ .deviceReset) (e : exec c s = .next t) (ignored : P s)
    (taken : s.ignores .control = false → ∀ u, s.RequestTaken c u → P u) : P t := by
  obtain ⟨u, eq, hu⟩ := exec_control_request (s := s) h hreset
  rw [eq] at e
  exact State.onControl_keeps e ignored fun open' => taken open' u hu

end Sys2Proof.Machine
end

section
/-! Links, watches, epoch timers, grant tables and buffers stay in agreement (`Safety.LinksAgree`): first the
operations that leave what the agreement reads, then the ones that bring a link up or down. -/

namespace Sys2Proof.Machine

open Safety

/-! ### What the agreement reads -/

/-- Two records of a radio agree in what `LinkAgrees` reads. -/
structure RadioUnit.SameLink (u v : RadioUnit) : Prop where
  watch : v.watch.isSome = u.watch.isSome
  epoch : v.epoch.running = u.epoch.running
  linkUp : v.linkUp = u.linkUp
  tags : v.grants.map (·.tag) = u.grants.map (·.tag)
  marks : v.marks = u.marks

theorem RadioUnit.SameLink.refl (u : RadioUnit) : u.SameLink u := ⟨rfl, rfl, rfl, rfl, rfl⟩

theorem RadioUnit.SameLink.trans {u v w : RadioUnit} (h : u.SameLink v) (h' : v.SameLink w) :
    u.SameLink w :=
  ⟨h'.watch.trans h.watch, h'.epoch.trans h.epoch, h'.linkUp.trans h.linkUp, h'.tags.trans h.tags,
    h'.marks.trans h.marks⟩

theorem RadioUnit.SameLink.agrees {u v : RadioUnit} (h : u.SameLink v) (agrees : LinkAgrees u) :
    LinkAgrees v where
  watch := by rw [h.watch, h.linkUp, agrees.watch]
  epoch := by rw [h.epoch, h.linkUp, agrees.epoch]
  down down := by
    have none : u.grants = [] := agrees.down (h.linkUp ▸ down)
    have tags := h.tags
    rw [none] at tags
    exact List.map_eq_nil_iff.1 tags
  window := by
    have length : v.grants.length = u.grants.length := by simpa using congrArg List.length h.tags
    rw [length]
    exact agrees.window
  tags := by rw [h.tags]; exact agrees.tags
  marks := by rw [h.marks, agrees.marks]

/-- Two states agree in what `LinksAgree` reads, but for buffers that are freed. -/
structure State.SameLinks (s t : State) : Prop where
  radio : ∀ r, (s.radio r).SameLink (t.radio r)
  claimed : ∀ l, (t.port l).claimed ≤ (s.port l).claimed
  resetInput : t.resetInput = s.resetInput

namespace State.SameLinks

variable {s t u : State}

theorem refl (s : State) : s.SameLinks s := ⟨fun _ => .refl _, fun _ => Nat.le_refl _, rfl⟩

theorem trans (h : s.SameLinks t) (h' : t.SameLinks u) : s.SameLinks u :=
  ⟨fun r => (h.radio r).trans (h'.radio r), fun l => (h'.claimed l).trans (h.claimed l),
    h'.resetInput.trans h.resetInput⟩

theorem agree (h : s.SameLinks t) (agree : LinksAgree s) : LinksAgree t where
  radios r := (h.radio r).agrees (agree.radios r)
  buffers l := (h.claimed l).trans (agree.buffers l)
  held held r := by rw [(h.radio r).linkUp, agree.held (h.resetInput ▸ held) r]

end State.SameLinks

theorem State.StationWork.sameLinks {s t : State} (h : s.StationWork t) : s.SameLinks t where
  radio r := by rw [h.radio r]; exact ⟨rfl, rfl, rfl, rfl, rfl⟩
  claimed l := by rw [h.port l]
  resetInput := h.resetInput

theorem State.sameLinks_setPort (s : State) (l : Link) (p : Port) (h : p.claimed ≤ (s.port l).claimed) :
    s.SameLinks (s.setPort l p) where
  radio r := by
    rw [State.setPort_radio]
    split <;> exact ⟨rfl, rfl, rfl, rfl, rfl⟩
  claimed k := by
    by_cases hk : l = k
    · subst hk; rwa [State.port_setPort_self]
    · rw [State.port_setPort_ne s p hk]
  resetInput := by simp

theorem State.sameLinks_answer (s : State) (l : Link) (a : Answer) : s.SameLinks (s.answer l a) :=
  s.sameLinks_setPort l _ (Nat.le_refl _)

theorem State.AnswersOn.sameLinks {l : Link} {s t : State} (h : s.AnswersOn l t) : s.SameLinks t := by
  obtain ⟨u, a, work, rfl⟩ := h
  exact work.sameLinks.trans (u.sameLinks_answer l a)

/-- Writing a radio's record with one that agrees in its link and claims no buffer more. -/
theorem State.sameLinks_setRadio (s : State) (r : Radio) (u : RadioUnit) (same : (s.radio r).SameLink u)
    (port : u.port.claimed ≤ (s.radio r).port.claimed) : s.SameLinks (s.setRadio r u) where
  radio q := by
    rw [State.radio_setRadio]
    split
    · next h => exact h ▸ same
    · exact .refl _
  claimed l := by
    cases l with
    | control => simp [State.port]
    | radio q =>
      simp only [State.port, State.radio_setRadio]
      split
      · next h => exact h ▸ port
      · exact Nat.le_refl _
  resetInput := by simp

theorem State.sameLinks_setRadioCounters (s : State) (r : Radio) (c : RadioCounters) :
    s.SameLinks (s.setRadio r { s.radio r with counters := c }) :=
  s.sameLinks_setRadio r _ ⟨rfl, rfl, rfl, rfl, rfl⟩ (Nat.le_refl _)

theorem State.EndWork.sameLinks {r : Radio} {s t : State} (h : s.EndWork r t) : s.SameLinks t where
  radio q := by
    by_cases hq : q = r
    · subst hq; rw [h.self]; exact ⟨rfl, rfl, rfl, rfl, rfl⟩
    · rw [h.other q hq]; exact ⟨rfl, rfl, rfl, rfl, rfl⟩
  claimed l := by rw [h.port l]
  resetInput := h.resetInput

theorem State.sameLinks_endEpoch (s : State) (r : Radio) (h : (s.radio r).epoch.due = true) :
    s.SameLinks (s.endEpoch r) := by
  have running : (s.radio r).epoch.running = true := by
    simp only [EpochTimer.due, Bool.and_eq_true] at h
    exact h.1
  have rolled : s.SameLinks (s.rollover r) :=
    s.sameLinks_setRadio r _ ⟨rfl, rfl, rfl, rfl, rfl⟩ (Nat.le_refl _)
  refine rolled.trans (State.sameLinks_setRadio _ r _ ⟨rfl, ?_, rfl, rfl, rfl⟩ (Nat.le_refl _))
  simpa [RadioUnit.startEpoch, State.rollover] using running.symm

/-! ### The clock -/

theorem RadioUnit.sameLink_tick (u : RadioUnit) : u.SameLink u.tick :=
  ⟨rfl, rfl, rfl, by simp [RadioUnit.tick], rfl⟩

theorem RadioUnit.sameLink_tickWatch (u : RadioUnit) : u.SameLink u.tickWatch :=
  ⟨by simp [RadioUnit.tickWatch], rfl, rfl, rfl, rfl⟩

theorem State.tickTimers_radio (s : State) (r : Radio) : s.tickTimers.radio r = (s.radio r).tick := by
  cases r <;> rfl

theorem State.tickWatches_radio (s : State) (r : Radio) :
    s.tickWatches.radio r = (s.radio r).tickWatch := by
  cases r <;> rfl

theorem State.sameLinks_tickTimers (s : State) : s.SameLinks s.tickTimers where
  radio r := by rw [State.tickTimers_radio]; exact RadioUnit.sameLink_tick _
  claimed l := by cases l with
    | control => exact Nat.le_refl _
    | radio r => cases r <;> exact Nat.le_refl _
  resetInput := rfl

theorem State.sameLinks_tickWatches (s : State) : s.SameLinks s.tickWatches where
  radio r := by rw [State.tickWatches_radio]; exact RadioUnit.sameLink_tickWatch _
  claimed l := by cases l with
    | control => exact Nat.le_refl _
    | radio r => cases r <;> exact Nat.le_refl _
  resetInput := rfl

/-- What one cycle counts: nothing in device reset, the watches in the freeze, else every timer. -/
theorem State.counted_cases (s : State) :
    (s.resetInput = false ∧ s.counted = s) ∨
    (s.resetInput = true ∧ s.frozen = true ∧ s.counted = s.tickWatches) ∨
    (s.resetInput = true ∧ s.frozen = false ∧ s.counted = s.tickTimers.tickWatches) := by
  unfold State.counted
  cases s.resetInput <;> cases s.frozen <;> simp

theorem State.sameLinks_counted (s : State) : s.SameLinks s.counted := by
  obtain ⟨-, h⟩ | ⟨-, -, h⟩ | ⟨-, -, h⟩ := s.counted_cases <;> rw [h]
  · exact .refl s
  · exact s.sameLinks_tickWatches
  · exact s.sameLinks_tickTimers.trans (State.sameLinks_tickWatches _)

/-! ### The model's own fields -/

theorem State.sameLinks_of_eq {s t : State} (radio : ∀ r, t.radio r = s.radio r)
    (control : t.control = s.control) (resetInput : t.resetInput = s.resetInput) : s.SameLinks t where
  radio r := by rw [radio r]; exact .refl _
  claimed l := by
    cases l with
    | control => rw [State.port, control]; exact Nat.le_refl _
    | radio r => rw [State.port, radio r]; exact Nat.le_refl _
  resetInput := resetInput

theorem State.sameLinks_pending (s : State) (cs : List Instr) : s.SameLinks { s with pending := cs } :=
  State.sameLinks_of_eq (fun r => by cases r <;> rfl) rfl rfl

theorem State.sameLinks_choices (s : State) (n : Nat) : s.SameLinks { s with choices := n } :=
  State.sameLinks_of_eq (fun r => by cases r <;> rfl) rfl rfl

end Sys2Proof.Machine
end

section
/-! What the walk of an OFFER can do (R87 to R95): a search of visits without a grant, and then at most one
grant. -/

namespace Sys2Proof.Machine

/-! ### One visit -/

/-- A group may be served in a pass: it is within cap in the cap pass, it has borrow set in the borrow pass
(R88, R90). -/
def State.allows (s : State) (r : Radio) (g : GroupIndex) : PassKind → Prop
  | .cap => s.withinCap r g = true
  | .borrow => (s.group g).borrow = true

/-- What a walk can do without a grant: rotate past marked stations, clear the marks before the borrow pass, or
make a visit that ends at its second, third or fourth step. -/
inductive Walk.SearchStep (r : Radio) (offer : Nat) (w : Walk) : Walk → Prop where
  | skip (g : GroupIndex) : SearchStep r offer w
      { w with
        state := w.state.setRing r g (skipMarked (w.state.radio r).marks ((w.state.radio r).ring g)) }
  | clear : SearchStep r offer w { w with state := w.state.clearMarks r }
  | empty {g : GroupIndex} {i : StationIndex} {ring : List StationIndex}
      (head : (w.state.radio r).ring g = i :: ring)
      (queue : ((w.state.headDrops r i).station i).queue = []) : SearchStep r offer w
      { w with visits := w.visits - 1, state := (w.state.headDrops r i).visitEmpty r g i }
  | credit {g : GroupIndex} {i : StationIndex} {ring : List StationIndex} {f : Slot} {rest : List Slot}
      (head : (w.state.radio r).ring g = i :: ring)
      (queue : ((w.state.headDrops r i).station i).queue = f :: rest)
      (deficit : ((w.state.headDrops r i).station i).deficit < 0) : SearchStep r offer w
      { w with visits := w.visits - 1, state := (w.state.headDrops r i).visitCredit r g i }
  | passOver {pass : PassKind} {g : GroupIndex} {i : StationIndex} {ring : List StationIndex} {f : Slot}
      {rest : List Slot} (head : (w.state.radio r).ring g = i :: ring)
      (queue : ((w.state.headDrops r i).station i).queue = f :: rest)
      (deficit : 0 ≤ ((w.state.headDrops r i).station i).deficit)
      (exceeds : w.state.budget r g pass offer < (w.state.headDrops r i).slotEstimate r i f) :
      SearchStep r offer w
      { w with
        visits := w.visits - 1, passedOver := true
        state := (w.state.headDrops r i).visitPassOver r g i }

/-- A search: any number of steps without a grant. -/
def Walk.Search (r : Radio) (offer : Nat) : Walk → Walk → Prop :=
  Relation.ReflTransGen (Walk.SearchStep r offer)

/-- The walk `v` is `w` after a visit that forms a grant. -/
inductive Walk.Grants (r : Radio) (offer : Nat) (w : Walk) : Walk → Prop where
  | intro {pass : PassKind} {g : GroupIndex} {i : StationIndex} {ring : List StationIndex} {f : Slot}
      {rest : List Slot} (allowed : w.state.allows r g pass)
      (head : (w.state.radio r).ring g = i :: ring)
      (queue : ((w.state.headDrops r i).station i).queue = f :: rest)
      (deficit : 0 ≤ ((w.state.headDrops r i).station i).deficit)
      (fits : (w.state.headDrops r i).slotEstimate r i f ≤ w.state.budget r g pass offer)
      (formed : State × Grant)
      (eq : formed = (w.state.headDrops r i).formGrant r i pass (w.state.budget r g pass offer)
        ((w.state.headDrops r i).selection r i (w.state.budget r g pass offer) f rest)) :
      Grants r offer w
      { w with visits := w.visits - 1, state := formed.1, grant := some formed.2 }

/-- A visit of the head of a ring is a search step or forms a grant. -/
theorem Walk.visit_cases {w : Walk} {r : Radio} {pass : PassKind} {offer : Nat} {g : GroupIndex}
    {i : StationIndex} {ring : List StationIndex} (head : (w.state.radio r).ring g = i :: ring)
    (allowed : w.state.allows r g pass) :
    (w.visit r pass offer g i).grant = w.grant ∧ Walk.SearchStep r offer w (w.visit r pass offer g i) ∨
      Walk.Grants r offer w (w.visit r pass offer g i) := by
  unfold Walk.visit
  simp only
  split
  · next queue => exact .inl ⟨rfl, .empty head queue⟩
  · next f rest queue =>
    split
    · next deficit => exact .inl ⟨rfl, .credit head queue deficit⟩
    · next deficit =>
      split
      · next exceeds => exact .inl ⟨rfl, .passOver head queue (not_lt.1 deficit) exceeds⟩
      · next fits => exact .inr (.intro allowed head queue (not_lt.1 deficit) (not_lt.1 fits) _ rfl)

/-- A visit counts once against the visit budget (R95). -/
@[simp] theorem Walk.visit_visits (w : Walk) (r : Radio) (pass : PassKind) (offer : Nat) (g : GroupIndex)
    (i : StationIndex) : (w.visit r pass offer g i).visits = w.visits - 1 := by
  unfold Walk.visit
  simp only
  split
  · rfl
  · split
    · rfl
    · split <;> rfl

/-! ### What a search leaves alone -/

/-- What visits without a grant leave alone: the other radio, of this radio all but rings and marks, of a
station all but its state, deficit, queue and frames dropped; a station in no ring of the radio is left as it
is, no station joins a ring, and the release list grows by EXPIRED and OVERSIZE notices alone. -/
structure State.Searched (r : Radio) (s t : State) : Prop extends s.RestKept t where
  self : t.radio r = { s.radio r with rings := (t.radio r).rings, marks := (t.radio r).marks }
  other : ∀ q, q ≠ r → t.radio q = s.radio q
  station : ∀ i, t.station i =
    { s.station i with
      state := (t.station i).state, deficit := (t.station i).deficit, queue := (t.station i).queue,
      dropped := (t.station i).dropped }
  unringed : ∀ i, (∀ g, i ∉ (s.radio r).ring g) → t.station i = s.station i
  members : ∀ g i, i ∈ (t.radio r).ring g → i ∈ (s.radio r).ring g
  released : ∃ ns : List Notice, t.releaseList = s.releaseList ++ ns ∧
    ∀ n ∈ ns, n.reason = .expired ∨ n.reason = .oversize

namespace State.Searched

variable {r : Radio} {s t u : State}

theorem refl (r : Radio) (s : State) : s.Searched r s where
  toRestKept := .refl s
  self := rfl
  other _ _ := rfl
  station _ := rfl
  unringed _ _ := rfl
  members _ _ h := h
  released := ⟨[], by simp⟩

theorem trans (h : s.Searched r t) (h' : t.Searched r u) : s.Searched r u where
  toRestKept := h.toRestKept.trans h'.toRestKept
  self := by rw [h'.self, h.self]
  other q hq := by rw [h'.other q hq, h.other q hq]
  station i := by rw [h'.station i, h.station i]
  unringed i hi := by
    rw [h'.unringed i fun g hg => hi g (h.members g i hg), h.unringed i hi]
  members g i hi := h.members g i (h'.members g i hi)
  released := by
    obtain ⟨ns, hns, reasons⟩ := h.released
    obtain ⟨ns', hns', reasons'⟩ := h'.released
    refine ⟨ns ++ ns', by rw [hns', hns, List.append_assoc], fun n hn => ?_⟩
    exact (List.mem_append.1 hn).elim (reasons n) (reasons' n)

/-- Writing a ring of the radio with some of its members. -/
theorem setRing {g : GroupIndex} {ring : List StationIndex} (h : ring ⊆ (s.radio r).ring g) :
    s.Searched r (s.setRing r g ring) where
  toRestKept := .setRadio ..
  self := by simp
  other q hq := State.setRing_radio_ne s g ring hq.symm
  station i := by simp
  unringed i _ := by simp
  members k i hi := by
    by_cases hk : g = k
    · subst hk
      rw [State.setRing_ring_self] at hi
      exact h hi
    · have hval : g.val ≠ k.val := fun e => hk (Fin.ext e)
      simpa [RadioUnit.ring, Vector.getElem_set_ne, hval] using hi
  released := ⟨[], by simp⟩

theorem setMarks (s : State) (marks : List StationIndex) :
    s.Searched r (s.setRadio r { s.radio r with marks := marks }) where
  toRestKept := .setRadio ..
  self := by simp
  other q hq := State.radio_setRadio_ne s _ hq.symm
  station i := by simp
  unringed i _ := by simp
  members k i hi := by simpa [RadioUnit.ring] using hi
  released := ⟨[], by simp⟩

theorem clearMarks (s : State) : s.Searched r (s.clearMarks r) := setMarks s []

/-- Writing the state, the deficit, the queue and the frames dropped of a station in a ring of the radio. -/
theorem setStation {g : GroupIndex} {i : StationIndex} {st : Station} (hi : i ∈ (s.radio r).ring g)
    (hst : st = { s.station i with
      state := st.state, deficit := st.deficit, queue := st.queue, dropped := st.dropped }) :
    s.Searched r (s.setStation i st) where
  toRestKept := .setStation ..
  self := by simp
  other q _ := by simp
  station j := by
    rw [State.station_setStation]
    split
    · next h => subst h; exact hst
    · rfl
  unringed j hj := by
    have hne : i ≠ j := fun e => hj g (e ▸ hi)
    exact State.station_setStation_ne s st hne
  members k j hj := by simpa using hj
  released := ⟨[], by simp⟩

end State.Searched

/-- The reasons of R56. -/
theorem State.dropReason_cases {s : State} {r : Radio} {i : StationIndex} {f : Slot} {why : Reason}
    (h : s.dropReason r i f = some why) : why = .expired ∨ why = .oversize := by
  unfold State.dropReason at h
  split at h
  · exact .inl (Option.some.inj h).symm
  · split at h
    · exact .inr (Option.some.inj h).symm
    · exact absurd h (by simp)

theorem State.Searched.retireAll {r : Radio} (s : State) {ns : List Notice}
    (reasons : ∀ n ∈ ns, n.reason = .expired ∨ n.reason = .oversize) : s.Searched r (s.retireAll ns) where
  toRestKept := (State.StationWork.retireAll ..).toRestKept
  self := by simp
  other q _ := by simp
  station i := by simp
  unringed i _ := by simp
  members k i hi := by simpa using hi
  released := ⟨ns, State.retireAll_releaseList .., reasons⟩

/-- Drops with the reasons of R56, of a station in a ring of the radio. -/
theorem State.Searched.dropFrames {r : Radio} {s : State} {g : GroupIndex} {i : StationIndex}
    (hi : i ∈ (s.radio r).ring g) {drops : List Notice} (kept : List Slot)
    (reasons : ∀ n ∈ drops, n.reason = .expired ∨ n.reason = .oversize) :
    s.Searched r (s.dropFrames i drops kept) :=
  State.Searched.trans (t := s.setStation i _) (.setStation hi rfl) (.retireAll _ reasons)

theorem State.Searched.headDrops {r : Radio} {s : State} {g : GroupIndex} {i : StationIndex}
    (hi : i ∈ (s.radio r).ring g) : s.Searched r (s.headDrops r i) :=
  .dropFrames hi _ fun n hn => State.dropReason_cases (splitDrops_reason _ _ n hn)

@[simp] theorem State.headDrops_radio (s : State) (r : Radio) (i : StationIndex) (q : Radio) :
    (s.headDrops r i).radio q = s.radio q := by
  simp [State.headDrops, State.dropFrames]

theorem rotate_subset (ring : List StationIndex) : rotate ring ⊆ ring := by
  intro i hi
  cases ring with
  | nil => exact hi
  | cons j ring => simpa [rotate, or_comm] using hi

theorem skipMarked_perm (marks ring : List StationIndex) : (skipMarked marks ring).Perm ring := by
  refine List.perm_append_comm.trans ?_
  rw [List.takeWhile_append_dropWhile]

theorem State.setRing_setStation (s : State) (r : Radio) (g : GroupIndex) (ring : List StationIndex)
    (i : StationIndex) (st : Station) :
    (s.setRing r g ring).setStation i st = (s.setStation i st).setRing r g ring := by
  cases r <;> rfl

theorem State.Searched.rotateRing {r : Radio} (s : State) (g : GroupIndex) :
    s.Searched r (s.rotateRing r g) := .setRing (rotate_subset _)

theorem State.Searched.leaveRing {r : Radio} (s : State) (g : GroupIndex) (i : StationIndex) :
    s.Searched r (s.leaveRing r g i) := .setRing (List.erase_subset)

theorem State.Searched.visitEmpty {r : Radio} {s : State} {g : GroupIndex} {i : StationIndex}
    (hi : i ∈ (s.radio r).ring g) : s.Searched r (s.visitEmpty r g i) := by
  have left : s.visitEmpty r g i =
      (s.setStation i { s.station i with state := .idle }).leaveRing r g i := by
    rw [State.visitEmpty, State.leaveRing, State.setRing_setStation, State.leaveRing,
      State.setStation_radio]
  rw [left]
  exact State.Searched.trans (.setStation hi rfl) (.leaveRing ..)

theorem State.Searched.visitCredit {r : Radio} {s : State} {g : GroupIndex} {i : StationIndex}
    (hi : i ∈ (s.radio r).ring g) : s.Searched r (s.visitCredit r g i) := by
  unfold State.visitCredit
  rw [State.rotateRing, State.setRing_setStation]
  exact State.Searched.trans (.setStation hi rfl) (.setRing (by simpa using rotate_subset _))

theorem State.Searched.visitPassOver {r : Radio} (s : State) (g : GroupIndex) (i : StationIndex) :
    s.Searched r (s.visitPassOver r g i) :=
  State.Searched.trans (.rotateRing s g) (.setMarks ..)

theorem Walk.SearchStep.searched {r : Radio} {offer : Nat} {w v : Walk}
    (h : Walk.SearchStep r offer w v) : w.state.Searched r v.state := by
  cases h with
  | skip g => exact .setRing (skipMarked_perm ..).subset
  | clear => exact .clearMarks _
  | @empty g i ring head queue =>
    have hi : i ∈ (w.state.radio r).ring g := by rw [head]; exact List.mem_cons_self
    exact (State.Searched.headDrops hi).trans (.visitEmpty (by simpa using hi))
  | @credit g i ring f rest head queue deficit =>
    have hi : i ∈ (w.state.radio r).ring g := by rw [head]; exact List.mem_cons_self
    exact (State.Searched.headDrops hi).trans (.visitCredit (by simpa using hi))
  | @passOver pass g i ring f rest head queue deficit exceeds =>
    have hi : i ∈ (w.state.radio r).ring g := by rw [head]; exact List.mem_cons_self
    exact (State.Searched.headDrops hi).trans (.visitPassOver ..)

theorem Walk.Search.searched {r : Radio} {offer : Nat} {w v : Walk} (h : Walk.Search r offer w v) :
    w.state.Searched r v.state := by
  induction h with
  | refl => exact .refl r _
  | tail _ step ih => exact ih.trans step.searched

/-- A search changes neither what the budgets and passes of R10, R11, R88 and R90 read nor the frames' times. -/
theorem State.Searched.allows {r : Radio} {s t : State} (h : s.Searched r t) {g : GroupIndex}
    {pass : PassKind} : t.allows r g pass ↔ s.allows r g pass := by
  cases pass with
  | cap =>
    simp only [State.allows, State.withinCap, State.usage, State.capOf, RadioUnit.epochLength, State.group,
      h.profile]
    rw [h.self]
    rfl
  | borrow => simp only [State.allows, State.group, h.profile]

/-! ### The walk -/

/-- A walk goes on or ends: `v` comes from `w` by a search alone, or by a search and a grant. -/
def Walk.Continues (r : Radio) (offer : Nat) (w v : Walk) : Prop :=
  (v.grant = none ∧ Walk.Search r offer w v) ∨
    ∃ mid, Walk.Search r offer w mid ∧ mid.grant = none ∧ Walk.Grants r offer mid v

theorem Walk.Grants.grant_isSome {r : Radio} {offer : Nat} {w v : Walk} (h : Walk.Grants r offer w v) :
    v.grant.isSome = true := by
  cases h; rfl

theorem Walk.Continues.of_search {r : Radio} {offer : Nat} {w u v : Walk} (h : Walk.Search r offer w u)
    (h' : Walk.Continues r offer u v) : Walk.Continues r offer w v := by
  obtain ⟨hnone, search⟩ | ⟨mid, search, hnone, grants⟩ := h'
  · exact .inl ⟨hnone, h.trans search⟩
  · exact .inr ⟨mid, h.trans search, hnone, grants⟩

theorem Walk.Continues.refl {r : Radio} {offer : Nat} {w : Walk} (h : w.grant = none) :
    Walk.Continues r offer w w := .inl ⟨h, .refl⟩

/-- A walk that has a grant takes no more steps: what continues it is itself. -/
theorem Walk.Continues.trans {r : Radio} {offer : Nat} {w u v : Walk} (h : Walk.Continues r offer w u)
    (go : u.grant = none → Walk.Continues r offer u v) (stop : u.grant.isSome = true → v = u) :
    Walk.Continues r offer w v := by
  obtain ⟨hnone, search⟩ | ⟨mid, search, hnone, grants⟩ := h
  · exact .of_search search (go hnone)
  · rw [stop grants.grant_isSome]
    exact .inr ⟨mid, search, hnone, grants⟩

/-- A group's turn (R89). -/
theorem Walk.turn_continues {r : Radio} {pass : PassKind} {offer : Nat} {g : GroupIndex} (n : Nat)
    {w : Walk} (hnone : w.grant = none) (allowed : w.state.allows r g pass) :
    Walk.Continues r offer w (Walk.turn r pass offer g n w) := by
  induction n generalizing w with
  | zero => exact .refl hnone
  | succ n ih =>
    unfold Walk.turn
    simp only
    split
    · exact .refl hnone
    · next i ring hring =>
      split
      · exact .refl hnone
      · let u : Walk := { w with state := w.state.setRing r g (i :: ring) }
        have skip : Walk.SearchStep r offer w u := by
          have step := Walk.SearchStep.skip (r := r) (offer := offer) (w := w) g
          rwa [hring] at step
        have head : (u.state.radio r).ring g = i :: ring := State.setRing_ring_self ..
        rw [hring]
        refine .of_search (.single skip) ?_
        change Walk.Continues r offer u (if (u.visit r pass offer g i).grant.isSome
          then u.visit r pass offer g i else Walk.turn r pass offer g n (u.visit r pass offer g i))
        have visited := Walk.visit_cases (offer := offer) head (skip.searched.allows.2 allowed)
        rcases visited with ⟨kept, step⟩ | grants
        · have hnone' : (u.visit r pass offer g i).grant = none := kept.trans hnone
          rw [hnone']
          exact .of_search (.single step)
            (ih hnone' (step.searched.allows.2 (skip.searched.allows.2 allowed)))
        · rw [if_pos grants.grant_isSome]
          exact .inr ⟨u, .refl, hnone, grants⟩

theorem State.tried_allows {s : State} {r : Radio} {pass : PassKind} {g : GroupIndex}
    (h : s.tried r pass g = true) : s.allows r g pass := by
  cases pass <;> simp_all [State.tried, State.allows]

theorem Walk.tryGroup_continues {r : Radio} {pass : PassKind} {offer : Nat} {g : GroupIndex} {w : Walk}
    (hnone : w.grant = none) : Walk.Continues r offer w (w.tryGroup r pass offer g) := by
  unfold Walk.tryGroup
  split
  · next h =>
    rw [Bool.and_eq_true] at h
    exact Walk.turn_continues _ hnone (State.tried_allows h.2)
  · exact .refl hnone

theorem Walk.tryGroup_of_grant {r : Radio} {pass : PassKind} {offer : Nat} {g : GroupIndex} {w : Walk}
    (hsome : w.grant.isSome = true) : w.tryGroup r pass offer g = w := by
  unfold Walk.tryGroup
  obtain ⟨grant, hgrant⟩ := Option.isSome_iff_exists.1 hsome
  simp [hgrant]

theorem Walk.foldl_of_grant {r : Radio} {pass : PassKind} {offer : Nat} (gs : List GroupIndex) {w : Walk}
    (hsome : w.grant.isSome = true) : gs.foldl (fun w g => w.tryGroup r pass offer g) w = w := by
  induction gs with
  | nil => rfl
  | cons g gs ih => rw [List.foldl_cons, Walk.tryGroup_of_grant hsome, ih]

theorem Walk.foldl_continues {r : Radio} {pass : PassKind} {offer : Nat} (gs : List GroupIndex) {w : Walk}
    (hnone : w.grant = none) :
    Walk.Continues r offer w (gs.foldl (fun w g => w.tryGroup r pass offer g) w) := by
  induction gs generalizing w with
  | nil => exact .refl hnone
  | cons g gs ih =>
    exact (Walk.tryGroup_continues (pass := pass) (g := g) hnone).trans (fun h => ih h)
      fun hsome => Walk.foldl_of_grant gs hsome

/-- The walk of an OFFER is a search, which a grant may end (R87, R90). -/
theorem State.walk_continues (s : State) (r : Radio) (offer : Nat) :
    Walk.Continues r offer ⟨s, Config.visitBudget, false, none⟩ (s.walk r offer) := by
  unfold State.walk
  simp only
  refine (Walk.foldl_continues (pass := .cap) (List.finRange 4) rfl).trans (fun hnone => ?_) fun hsome => ?_
  · split
    · exact .refl hnone
    · refine .of_search (.single .clear) (Walk.foldl_continues _ ?_)
      exact hnone
  · have hsome' : (Walk.overGroups ⟨s, Config.visitBudget, false, none⟩ r .cap offer).grant.isSome = true :=
      hsome
    rw [hsome', Bool.true_or, if_pos rfl]
    rfl

/-! ### Grant formation (R98) -/

/-- What grant formation leaves alone: the other radio, and of this radio all but its rings, group counters,
grant table, next tag and grants formed count; the release list grows by the drops in passing. -/
structure State.Formed (r : Radio) (g : Grant) (drops : List Notice) (s t : State) : Prop
    extends s.RestKept t where
  self : t.radio r =
    { s.radio r with
      rings := (t.radio r).rings, usage := (t.radio r).usage, borrowed := (t.radio r).borrowed
      grants := (s.radio r).grants ++ [g], nextTag := g.tag + 1
      counters := { (s.radio r).counters with
        grantsFormed := (s.radio r).counters.grantsFormed + 1 } }
  other : ∀ q, q ≠ r → t.radio q = s.radio q
  released : t.releaseList = s.releaseList ++ drops

theorem State.leaveRing_radio_ne (s : State) {r q : Radio} (g : GroupIndex) (i : StationIndex) (h : q ≠ r) :
    (s.leaveRing r g i).radio q = s.radio q := State.setRing_radio_ne s g _ h.symm

theorem State.lendTo_radio_ne (s : State) {r q : Radio} (g : Grant) (h : q ≠ r) :
    (s.lendTo r g).radio q = s.radio q := by
  rw [State.lendTo, State.setStation_radio, State.leaveRing_radio_ne s _ _ h]

@[simp] theorem State.dropFrames_radio (s : State) (i : StationIndex) (drops : List Notice)
    (kept : List Slot) (q : Radio) : (s.dropFrames i drops kept).radio q = s.radio q := by
  simp [State.dropFrames]

@[simp] theorem State.dropFrames_releaseList (s : State) (i : StationIndex) (drops : List Notice)
    (kept : List Slot) : (s.dropFrames i drops kept).releaseList = s.releaseList ++ drops := by
  simp [State.dropFrames, State.retireAll_releaseList]

@[simp] theorem State.chargeCounter_releaseList (s : State) (r : Radio) (g : GroupIndex) (pass : PassKind)
    (n : Nat) : (s.chargeCounter r g pass n).releaseList = s.releaseList := by
  cases pass <;> simp [State.chargeCounter]

@[simp] theorem State.lendTo_releaseList (s : State) (r : Radio) (g : Grant) :
    (s.lendTo r g).releaseList = s.releaseList := by
  simp [State.lendTo, State.leaveRing]

theorem State.chargeCounter_radio_ne (s : State) {r q : Radio} (g : GroupIndex) (pass : PassKind) (n : Nat)
    (h : q ≠ r) : (s.chargeCounter r g pass n).radio q = s.radio q := by
  cases pass with
  | cap => rw [State.chargeCounter, State.raiseIf_radio, State.setUsage, State.radio_setRadio_ne s _ h.symm]
  | borrow => rw [State.chargeCounter, State.setBorrowed, State.radio_setRadio_ne s _ h.symm]

theorem State.formGrant_formed (s : State) (r : Radio) (i : StationIndex) (pass : PassKind) (budget : Nat)
    (sel : Selection) :
    State.Formed r (s.newGrant r i pass budget sel) sel.drops s (s.formGrant r i pass budget sel).1 := by
  have lent := (StationWork.dropFrames s i sel.drops sel.kept).trans
    (StationWork.lendTo _ r (s.newGrant r i pass budget sel))
  have charged := State.EndWork.chargeCounter (r := r)
    ((s.dropFrames i sel.drops sel.kept).lendTo r (s.newGrant r i pass budget sel))
    (s.newGrant r i pass budget sel).group pass (s.newGrant r i pass budget sel).estimate
  exact {
    toRestKept := (lent.toRestKept.trans charged.toRestKept).trans (.setRadio ..)
    self := by
      simp only [State.formGrant, State.recordGrant, State.radio_setRadio_self]
      rw [charged.self, lent.radio r]
    other := fun q hq => by
      simp only [State.formGrant, State.recordGrant]
      rw [State.radio_setRadio_ne _ _ hq.symm, State.chargeCounter_radio_ne _ _ _ _ hq,
        State.lendTo_radio_ne _ _ hq, State.dropFrames_radio]
    released := by simp [State.formGrant, State.recordGrant] }

/-- Frame selection retires with the reasons of its test alone. -/
theorem selectFrames_reason {reason : Slot → Option Reason} {time : Slot → Nat} {fits : Nat → Bool}
    (n sum : Nat) (fs : List Slot) {d : Notice} (h : d ∈ (selectFrames reason time fits n sum fs).drops) :
    reason d.slot = some d.reason := by
  induction fs generalizing n sum with
  | nil => exact absurd h (by simp [selectFrames])
  | cons f fs ih =>
    unfold selectFrames at h
    split at h
    · next why hwhy =>
      rcases List.mem_cons.1 h with rfl | h
      · exact hwhy
      · exact ih n sum h
    · split at h
      · exact absurd h (by simp)
      · split at h
        · exact ih _ _ h
        · exact absurd h (by simp)

/-- A grant of a walk is formed from a state that a search leaves, under a tag no other grant there carries. -/
theorem Walk.Grants.formed {r : Radio} {offer : Nat} {w v : Walk} (h : Walk.Grants r offer w v) :
    ∃ base g drops, w.state.Searched r base ∧ State.Formed r g drops base v.state ∧ v.grant = some g ∧
      g.tag = (base.radio r).grantTag ∧ ∀ n ∈ drops, n.reason = .expired ∨ n.reason = .oversize := by
  obtain @⟨pass, g, i, ring, f, rest, allowed, head, queue, deficit, fits, formed, rfl⟩ := h
  have hi : i ∈ (w.state.radio r).ring g := by rw [head]; exact List.mem_cons_self
  exact ⟨_, _, _, .headDrops hi, State.formGrant_formed .., rfl, rfl,
    fun n hn => State.dropReason_cases (selectFrames_reason _ _ _ hn)⟩

/-! ### OFFER (R86) -/

/-- The walk of an OFFER before its first visit. -/
def State.offerStart (s : State) (r : Radio) : Walk := ⟨s.clearMarks r, Config.visitBudget, false, none⟩

/-- What an OFFER on an UP link does: a PASS without a walk, a PASS at the end of a search, or a grant that
ends one. -/
inductive State.Offered (r : Radio) (airtime : BitVec 16) (s : State) : State → Prop where
  | frozen (h : s.frozen = true) : Offered r airtime s (s.answerPass r .frozen)
  | windowFull (h : Config.grantWindow ≤ (s.radio r).grants.length) :
      Offered r airtime s (s.answerPass r .windowFull)
  | passed (w : Walk) (walk : (s.clearMarks r).walk r (clampOffer airtime) = w) (hnone : w.grant = none)
      (search : Walk.Search r (clampOffer airtime) (s.offerStart r) w) :
      Offered r airtime s ((w.state.clearMarks r).answerPass r (w.reason r))
  | granted (mid v : Walk) (g : Grant) (room : (s.radio r).grants.length < Config.grantWindow)
      (search : Walk.Search r (clampOffer airtime) (s.offerStart r) mid) (hnone : mid.grant = none)
      (grants : Walk.Grants r (clampOffer airtime) mid v) (hsome : v.grant = some g) :
      Offered r airtime s ((v.state.clearMarks r).answer (.radio r) (.grant g))

theorem offerTaken_offered (r : Radio) (airtime : BitVec 16) (s : State) :
    State.Offered r airtime s (offerTaken r airtime s) := by
  unfold offerTaken
  split
  · next h => exact .frozen h
  · split
    · next h => exact .windowFull h
    · next h =>
      obtain ⟨hnone, search⟩ | ⟨mid, search, hnone, grants⟩ :=
        (s.clearMarks r).walk_continues r (clampOffer airtime)
      · rw [Walk.finish, hnone]
        exact .passed _ rfl hnone search
      · obtain ⟨g, hsome⟩ := Option.isSome_iff_exists.1 grants.grant_isSome
        rw [Walk.finish, hsome]
        exact .granted mid _ g (not_le.1 h) search hnone grants hsome

theorem Walk.Search.searched_start {r : Radio} {offer : Nat} {s : State} {w : Walk}
    (h : Walk.Search r offer (s.offerStart r) w) : s.Searched r w.state :=
  (State.Searched.clearMarks s).trans h.searched

end Sys2Proof.Machine
end

section
/-! Every step keeps the links and the blocks of each radio in agreement (9.4). -/

namespace Sys2Proof.Machine

variable {s t : State}

/-! ### The grants of a radio ended one after the other (R123) -/

theorem State.dropGrant_grants (s : State) (r : Radio) (tag : Byte) :
    ((s.dropGrant r tag).radio r).grants = (s.radio r).grants.eraseP fun g => g.tag = tag := by
  simp [State.dropGrant]

/-- The first grant of a radio ended as withdrawn leaves the others. -/
theorem State.endWithdrawn_grants_head {r : Radio} {g : Grant} {gs : List Grant}
    (h : (s.radio r).grants = g :: gs) : ((s.endWithdrawn r g).radio r).grants = gs := by
  obtain ⟨u, work, eq⟩ := s.endWithdrawn_eq r g
  rw [eq, State.dropGrant_grants, work.grants, h]
  simp

/-- What ending a radio's first grant keeps, ending them all keeps; afterwards it has none (R123). -/
theorem State.endGrants_keeps {P : State → Prop} {r : Radio}
    (keeps : ∀ u g gs, (u.radio r).grants = g :: gs → P u → P (u.endWithdrawn r g)) (h : P s) :
    P (s.endGrants r) ∧ ((s.endGrants r).radio r).grants = [] := by
  have fold : ∀ (gs : List Grant) (u : State), (u.radio r).grants = gs → P u →
      P (gs.foldl (fun t g => t.endWithdrawn r g) u) ∧
        ((gs.foldl (fun t g => t.endWithdrawn r g) u).radio r).grants = [] := by
    intro gs
    induction gs with
    | nil => exact fun u hu hP => ⟨hP, hu⟩
    | cons g gs ih =>
      exact fun u hu hP => ih _ (State.endWithdrawn_grants_head hu) (keeps u g gs hu hP)
  exact fold _ s rfl h

theorem State.endWithdrawn_restKept (s : State) (r : Radio) (g : Grant) :
    s.RestKept (s.endWithdrawn r g) := by
  obtain ⟨u, work, eq⟩ := s.endWithdrawn_eq r g
  rw [eq]
  exact work.toRestKept.trans (.setRadio ..)

theorem State.radioLinkReset_restKept (s : State) (r : Radio) : s.RestKept (s.radioLinkReset r) := by
  have ended : s.RestKept (s.endGrants r) :=
    (State.endGrants_keeps (P := s.RestKept) (r := r)
      (fun u g _ _ hu => hu.trans (u.endWithdrawn_restKept r g)) (.refl s)).1
  exact (ended.trans (.setRadio ..)).trans (.raise ..)

theorem State.sameLinks_answerPass (s : State) (r : Radio) (reason : PassReason) :
    s.SameLinks (s.answerPass r reason) :=
  (s.sameLinks_setRadioCounters r _).trans (State.sameLinks_answer ..)

/-! ### OFFER -/

/-- After a search the marks are cleared, and the links are as they were. -/
theorem State.Searched.sameLinks_clearMarks {r : Radio} (h : s.Searched r t)
    (marks : (s.radio r).marks = []) : s.SameLinks (t.clearMarks r) where
  radio q := by
    by_cases hq : q = r
    · subst hq
      rw [State.clearMarks, State.radio_setRadio_self, h.self]
      exact ⟨rfl, rfl, rfl, rfl, marks.symm⟩
    · rw [State.clearMarks, State.radio_setRadio_ne _ _ (Ne.symm hq), h.other q hq]
      exact .refl _
  claimed l := by
    cases l with
    | control => simp [State.port, State.clearMarks, h.control]
    | radio q =>
      by_cases hq : q = r
      · subst hq
        rw [State.port, State.clearMarks, State.radio_setRadio_self, h.self]
        exact Nat.le_refl _
      · rw [State.port, State.clearMarks, State.radio_setRadio_ne _ _ (Ne.symm hq), h.other q hq]
        exact Nat.le_refl _
  resetInput := by simp [State.clearMarks, h.resetInput]

/-- With a grant at most outstanding, the tag of the next one is not its tag (R97). -/
theorem RadioUnit.grantTag_not_mem {u : RadioUnit} (room : u.grants.length < Config.grantWindow) :
    u.grantTag ∉ u.grants.map (·.tag) := by
  obtain h | ⟨g, h⟩ : u.grants = [] ∨ ∃ g, u.grants = [g] := by
    match hu : u.grants with
    | [] => exact .inl rfl
    | [g] => exact .inr ⟨g, rfl⟩
    | _ :: _ :: _ => simp [hu, Config.grantWindow] at room
  · simp [h]
  · unfold RadioUnit.grantTag
    by_cases hg : u.nextTag = g.tag
    · simp [h, hg]
    · simp [h, hg]

end Sys2Proof.Machine

namespace Sys2Proof.Safety

open Machine

variable {s t : State}

/-! ### One radio's record written -/

/-- The agreement after one radio's record is written with one that agrees. -/
theorem LinksAgree.setRadio (h : LinksAgree s) {r : Radio} {u : RadioUnit} (agrees : LinkAgrees u)
    (port : u.port.claimed ≤ Config.bufferCount) (held : s.resetInput = false → u.linkUp = false) :
    LinksAgree (s.setRadio r u) where
  radios q := by
    rw [State.radio_setRadio]
    split
    · exact agrees
    · exact h.radios q
  buffers l := by
    cases l with
    | control => simpa [State.port] using h.buffers .control
    | radio q =>
      simp only [State.port, State.radio_setRadio]
      split
      · exact port
      · exact h.buffers (.radio q)
  held low q := by
    rw [State.setRadio_resetInput] at low
    rw [State.radio_setRadio]
    split
    · exact held low
    · exact h.held low q

theorem LinksAgree.dropGrant (h : LinksAgree s) (r : Radio) (tag : Byte) : LinksAgree (s.dropGrant r tag) := by
  have agrees := h.radios r
  have fewer := (List.eraseP_sublist (p := fun g : Grant => decide (g.tag = tag)) (l := (s.radio r).grants))
  refine h.setRadio ?_ (h.buffers (.radio r)) fun low => h.held low r
  exact {
    watch := agrees.watch
    epoch := agrees.epoch
    down := fun down => List.eq_nil_of_subset_nil (agrees.down down ▸ fewer.subset)
    window := fewer.length_le.trans agrees.window
    tags := (fewer.map _).nodup agrees.tags
    marks := agrees.marks }

theorem LinksAgree.endWithdrawn (h : LinksAgree s) (r : Radio) (g : Grant) :
    LinksAgree (s.endWithdrawn r g) := by
  obtain ⟨u, work, eq⟩ := s.endWithdrawn_eq r g
  rw [eq]
  exact (work.sameLinks.agree h).dropGrant ..

theorem LinksAgree.endReported (h : LinksAgree s) (r : Radio) (g : Grant) (actual : Nat) (rate : BitVec 16)
    (outcomes : List FrameOutcome) : LinksAgree (s.endReported r g actual rate outcomes) := by
  obtain ⟨u, work, eq⟩ := s.endReported_eq r g actual rate outcomes
  rw [eq]
  exact (work.sameLinks.agree h).dropGrant ..

theorem LinksAgree.endTimedOut (h : LinksAgree s) (r : Radio) (g : Grant) :
    LinksAgree (s.endTimedOut r g) := by
  obtain ⟨u, work, -, eq⟩ := s.endTimedOut_eq r g
  have dropped := (work.sameLinks.agree h).dropGrant r g.tag
  rw [eq]
  exact (State.StationWork.raise ..).sameLinks.agree
    ((State.sameLinks_setRadioCounters ..).agree dropped)

/-! ### Links going DOWN and UP (R164, R166) -/

theorem LinksAgree.takeDown (h : LinksAgree s) {r : Radio} (none : (s.radio r).grants = []) :
    LinksAgree (s.takeDown r) := by
  refine h.setRadio ?_ (h.buffers (.radio r)) fun _ => rfl
  exact ⟨rfl, rfl, fun _ => none, by simp [none], by simp [none], (h.radios r).marks⟩

theorem LinksAgree.radioLinkReset (h : LinksAgree s) (r : Radio) : LinksAgree (s.radioLinkReset r) := by
  obtain ⟨agree, none⟩ := State.endGrants_keeps (r := r) (fun u g _ _ hu => hu.endWithdrawn r g) h
  exact (State.StationWork.raise ..).sameLinks.agree (agree.takeDown none)

theorem LinksAgree.bringUp (h : LinksAgree s) {r : Radio} (input : s.resetInput = true) :
    LinksAgree (s.bringUp r) := by
  have agrees := h.radios r
  refine h.setRadio ?_ (h.buffers (.radio r)) fun low => absurd low (by simp [input])
  exact ⟨rfl, rfl, fun down => absurd down (by simp), agrees.window, agrees.tags, agrees.marks⟩

theorem LinksAgree.linkStartTaken (h : LinksAgree s) {r : Radio} (input : s.resetInput = true) :
    LinksAgree (Machine.linkStartTaken r s) := by
  refine (State.sameLinks_answer ..).agree (LinksAgree.bringUp ?_ ?_)
  · split
    · exact h.radioLinkReset r
    · exact h
  · split
    · rw [(s.radioLinkReset_restKept r).resetInput, input]
    · exact input

/-! ### OFFER -/

theorem LinksAgree.granted (h : LinksAgree s) {r : Radio} {base : State} {g : Grant} {drops : List Notice}
    (up : (s.radio r).linkUp = true) (room : (s.radio r).grants.length < Config.grantWindow)
    (searched : s.Searched r base) (formed : State.Formed r g drops base t)
    (tag : g.tag = (base.radio r).grantTag) : LinksAgree (t.clearMarks r) := by
  have agrees := h.radios r
  have grants : (base.radio r).grants = (s.radio r).grants := by rw [searched.self]
  have fresh := RadioUnit.grantTag_not_mem (u := base.radio r) (by rwa [grants])
  rw [← tag, grants] at fresh
  have radio : ∀ q, LinkAgrees ((t.clearMarks r).radio q) ∧ ((t.clearMarks r).radio q).port =
      (s.radio q).port ∧ ((t.clearMarks r).radio q).linkUp = (s.radio q).linkUp := by
    intro q
    by_cases hq : q = r
    · subst hq
      rw [State.clearMarks, State.radio_setRadio_self, formed.self, searched.self]
      refine ⟨⟨agrees.watch, agrees.epoch, fun down => ?_, ?_, ?_, rfl⟩, rfl, rfl⟩
      · exact absurd up (by simpa using down)
      · simpa using room
      · simpa [List.nodup_append, agrees.tags] using fresh
    · rw [State.clearMarks, State.radio_setRadio_ne _ _ (Ne.symm hq), formed.other q hq,
        searched.other q hq]
      exact ⟨h.radios q, rfl, rfl⟩
  exact {
    radios := fun q => (radio q).1
    buffers := fun l => by
      cases l with
      | control =>
        simpa [State.port, State.clearMarks, formed.control, searched.control] using h.buffers .control
      | radio q => rw [State.port, (radio q).2.1]; exact h.buffers (.radio q)
    held := fun low q => by
      rw [(radio q).2.2]
      refine h.held ?_ q
      simpa [State.clearMarks, formed.resetInput, searched.resetInput] using low }

theorem LinksAgree.offerTaken (h : LinksAgree s) {r : Radio} {airtime : BitVec 16}
    (up : (s.radio r).linkUp = true) : LinksAgree (Machine.offerTaken r airtime s) := by
  have offered := offerTaken_offered r airtime s
  generalize Machine.offerTaken r airtime s = t at offered
  cases offered with
  | frozen | windowFull => exact (State.sameLinks_answerPass ..).agree h
  | passed w walk hnone search =>
    exact ((search.searched_start.sameLinks_clearMarks (h.radios r).marks).trans
      (State.sameLinks_answerPass ..)).agree h
  | granted mid v g room search hnone grants hsome =>
    obtain ⟨base, g', drops, searched, formed, hsome', tag, -⟩ := grants.formed
    exact (State.sameLinks_answer ..).agree
      (h.granted up room (search.searched_start.trans searched) formed tag)

/-! ### Ports and device resets -/

theorem LinksAgree.requestRecordBegins (h : LinksAgree s) {l : Link}
    (e : execRequestRecordBegins l s = .next t) : LinksAgree t := by
  cases e
  split
  · exact (s.sameLinks_pending _).agree h
  · split
    · next ready =>
      have claimed : (s.port l).claimed < Config.bufferCount := by
        simp only [State.ready, Bool.and_eq_true, decide_eq_true_eq] at ready
        exact ready.2
      cases l with
      | control => exact ⟨h.radios, fun k => by
          cases k with
          | control => exact claimed
          | radio q => exact h.buffers (.radio q), h.held⟩
      | radio r =>
        have agrees := h.radios r
        exact h.setRadio ⟨agrees.watch, agrees.epoch, agrees.down, agrees.window, agrees.tags, agrees.marks⟩
          claimed fun low => h.held low r
    · exact ((s.sameLinks_pending _).trans (State.StationWork.raiseIf ..).sameLinks).agree h

theorem LinksAgree.answerSent (h : LinksAgree s) {l : Link} (e : execAnswerSent l s = .next t) :
    LinksAgree t := by
  unfold execAnswerSent at e
  split at e
  · cases e; exact h
  · next rest hrest =>
    cases e
    have sent := (s.sameLinks_setPort l ⟨(s.port l).claimed - 1, rest⟩ (Nat.sub_le ..)).agree h
    split
    · exact ⟨sent.radios, sent.buffers, sent.held⟩
    · exact sent

theorem linkAgrees_reset : LinkAgrees RadioUnit.reset :=
  ⟨rfl, rfl, fun _ => rfl, by simp [RadioUnit.reset], by simp [RadioUnit.reset], rfl⟩

/-- A state whose radios and ports hold their reset values, with the Control Link's answers. -/
theorem linksAgree_of_reset (radio : ∀ r, s.radio r = RadioUnit.reset) (control : s.control.claimed = 0) :
    LinksAgree s where
  radios r := by rw [radio r]; exact linkAgrees_reset
  buffers l := by
    cases l with
    | control => rw [State.port, control]; exact Nat.zero_le _
    | radio r => rw [State.port, radio r]; exact Nat.zero_le _
  held _ r := by rw [radio r]; rfl

theorem linksAgree_deviceResetTaken (s : State) : LinksAgree (deviceResetTaken s) :=
  linksAgree_of_reset (fun r => by cases r <;> rfl) rfl

/-! ### Every command -/

theorem ControlWrite.sameLinks (h : s.ControlWrite t) : s.SameLinks t := by
  cases h with
  | radio r b => exact s.sameLinks_setRadio r _ ⟨rfl, rfl, rfl, rfl, rfl⟩ (Nat.le_refl _)
  | nothing | scanCursor | collected | group | saved | restored | device | forced | masked =>
    exact State.sameLinks_of_eq (fun r => by cases r <;> rfl) rfl rfl

theorem RequestTaken.sameLinks {c : Instr} (h : s.RequestTaken c t) : s.SameLinks t := by
  cases h with
  | answers h => exact h.sameLinks
  | writes h =>
    obtain ⟨u, a, write, rfl⟩ := h
    exact (ControlWrite.sameLinks write).trans (State.sameLinks_answer ..)
  | cleared kinds =>
    exact State.SameLinks.trans (t := { s with raw := s.raw &&& ~~~kinds })
      (State.sameLinks_of_eq (fun r => by cases r <;> rfl) rfl rfl) (State.sameLinks_answer ..)

theorem sameLinks_emptyPort (s : State) (r : Radio) : s.SameLinks (s.emptyPort r) :=
  (s.sameLinks_pending _).trans (State.sameLinks_setPort _ (.radio r) .empty (Nat.zero_le _))

theorem exec_keeps_linksAgree (c : Instr) (s t : State) (h : LinksAgree s) (e : exec c s = .next t) :
    LinksAgree t := by
  by_cases request : requestLink c = some .control ∧ c ≠ .deviceReset
  · obtain ⟨link, hreset⟩ := request
    exact exec_control_keeps link hreset e h fun _ u taken => (RequestTaken.sameLinks taken).agree h
  cases c with
  | deviceReset => exact State.onControl_keeps e h fun _ => linksAgree_deviceResetTaken s
  | linkStart r =>
    exact ignored_keeps e h fun taken => h.linkStartTaken (by simpa [State.ignores] using taken)
  | offer r airtime =>
    exact State.onRadio_keeps e h (fun _ => (State.sameLinks_answer ..).agree h)
      fun _ up => h.offerTaken up
  | report r tag airtime rate fields =>
    refine State.onRadio_keeps e h (fun _ => (State.sameLinks_answer ..).agree h) fun _ _ => ?_
    unfold reportTaken
    split
    · exact (State.sameLinks_answer ..).agree h
    · split
      · exact (State.sameLinks_answer ..).agree h
      · split
        · exact (State.answersOn_refuseMalformed ..).sameLinks.agree h
        · exact (State.sameLinks_answer ..).agree (h.endReported ..)
  | withdraw r tag =>
    refine State.onRadio_keeps e h (fun _ => (State.sameLinks_answer ..).agree h) fun _ _ => ?_
    unfold withdrawTaken
    split
    · exact (State.sameLinks_answer ..).agree h
    · exact (State.sameLinks_answer ..).agree (h.endWithdrawn ..)
  | note r index power rate =>
    exact State.onRadio_keeps e h (fun _ => (State.sameLinks_answer ..).agree h)
      fun _ _ => (noteTaken_answers ..).sameLinks.agree h
  | malformedRecord l kind =>
    exact ignored_keeps e h fun _ => (malformedTaken_answers ..).sameLinks.agree h
  | recordWithoutHeader l | recordWhileNotReady l =>
    cases e
    exact (State.StationWork.raiseIf ..).sameLinks.agree h
  | answerSent l => exact h.answerSent e
  | holdTimerExpiry i =>
    refine State.onExpiry_keeps e h fun _ => ?_
    split
    · exact (State.StationWork.enterReady ..).sameLinks.agree h
    · exact h
  | settleTimerExpiry i =>
    refine State.onExpiry_keeps e h fun _ => ?_
    split
    · exact (State.StationWork.setStation ..).sameLinks.agree h
    · exact h
  | grantTimeout r tag =>
    refine State.onExpiry_keeps e h fun _ => ?_
    split
    · exact h
    · split
      · exact h.endTimedOut ..
      · exact h
  | epochTimerExpiry r =>
    refine State.onExpiry_keeps e h fun _ => ?_
    split
    · next due => exact (s.sameLinks_endEpoch r due).agree h
    · exact h
  | millisecondClockAdvance =>
    refine State.onExpiry_keeps e h fun _ => ?_
    split
    · exact State.SameLinks.agree (s := s) (State.sameLinks_of_eq (fun r => by cases r <;> rfl) rfl rfl) h
    · exact h
  | linkClockAbsent r =>
    cases e
    split
    · exact ((sameLinks_emptyPort s r).agree h).radioLinkReset r
    · exact h
  | resetInputLow =>
    cases e
    exact linksAgree_of_reset (fun r => by cases r <;> rfl) rfl
  | resetInputHigh =>
    cases e
    exact ⟨fun r => by cases r; exacts [h.radios .a, h.radios .b],
      fun l => by
        cases l with
        | control => exact h.buffers .control
        | radio r => cases r; exacts [h.buffers (.radio .a), h.buffers (.radio .b)],
      fun low => absurd low (by simp)⟩
  | freezeInputAsserted | freezeInputReleased =>
    cases e
    exact State.SameLinks.agree (s := s) (State.sameLinks_of_eq (fun r => by cases r <;> rfl) rfl rfl) h
  | requestRecordBegins l => exact h.requestRecordBegins e
  | requestClockEdge r =>
    cases e
    split
    · next up =>
      have agrees := h.radios r
      exact h.setRadio ⟨by simp [up], agrees.epoch, agrees.down, agrees.window, agrees.tags, agrees.marks⟩
        (h.buffers (.radio r)) fun low => h.held low r
    · exact h
  | _ => exact absurd ⟨rfl, by simp⟩ request

/-- Settles O53: what the agreement reads is left alone by the station operations (`State.SameLinks`), and the
commands that bring a link up or down, form, end or time out a grant keep it agreed. -/
theorem linksAgreeKept : Obligations.LinksAgreeKept := fun _ _ h e =>
  step_keeps exec_keeps_linksAgree (fun a cs ha => (a.sameLinks_pending cs).agree ha)
    (fun a n ha => (a.sameLinks_counted.trans (State.sameLinks_choices _ n)).agree ha) h e

end Sys2Proof.Safety
end

section
/-! The slots in use (R44): what each operation makes of their number, and that every step keeps them within
the pool. -/

namespace Sys2Proof.Machine

/-- The slots in use: QUEUED, LENT and RETIRED (R44). -/
def State.inUse (s : State) : Nat := s.queuedCount + s.lentCount + s.retiredCount

theorem poolBounded_iff (s : State) : Safety.PoolBounded s ↔ s.inUse ≤ Config.slotCount := Iff.rfl

namespace State

variable (s : State)

/-! ### Plain updates -/

theorem inUse_setStation (i : StationIndex) (st : Station) :
    (s.setStation i st).inUse + (s.station i).queue.length = s.inUse + st.queue.length := by
  have queued := s.queuedCount_setStation i st
  simp only [State.inUse, State.lentCount_setStation, State.retiredCount, State.setStation_releaseList]
  omega

theorem inUse_setStation_same {i : StationIndex} {st : Station}
    (h : st.queue.length = (s.station i).queue.length) : (s.setStation i st).inUse = s.inUse := by
  have := s.inUse_setStation i st
  omega

theorem inUse_setRadio (r : Radio) (u : RadioUnit) :
    (s.setRadio r u).inUse + (s.radio r).lentCount = s.inUse + u.lentCount := by
  have lent := s.lentCount_setRadio r u
  simp only [State.inUse, State.queuedCount_setRadio, State.retiredCount, State.setRadio_releaseList]
  omega

theorem inUse_setRadio_same {r : Radio} {u : RadioUnit} (h : u.grants = (s.radio r).grants) :
    (s.setRadio r u).inUse = s.inUse := by
  have := s.inUse_setRadio r u
  have lent : u.lentCount = (s.radio r).lentCount := by rw [RadioUnit.lentCount, h, RadioUnit.lentCount]
  omega

@[simp] theorem inUse_raise (k : EventKind) : (s.raise k).inUse = s.inUse := rfl

@[simp] theorem inUse_raiseIf (c : Prop) [Decidable c] (k : EventKind) :
    (s.raiseIf c k).inUse = s.inUse := by
  unfold State.raiseIf
  split <;> rfl

@[simp] theorem inUse_answer (l : Link) (a : Answer) : (s.answer l a).inUse = s.inUse := by
  cases l with
  | control => rfl
  | radio r => exact s.inUse_setRadio_same rfl

@[simp] theorem inUse_retireAll (ns : List Notice) : (s.retireAll ns).inUse = s.inUse + ns.length := by
  rw [State.retireAll_eq, State.inUse_raiseIf]
  simp only [State.inUse, State.retiredCount, List.length_append]
  change s.queuedCount + s.lentCount + _ = _
  omega

@[simp] theorem inUse_setRing (r : Radio) (g : GroupIndex) (ring : List StationIndex) :
    (s.setRing r g ring).inUse = s.inUse := s.inUse_setRadio_same rfl

@[simp] theorem inUse_joinRing (r : Radio) (g : GroupIndex) (i : StationIndex) :
    (s.joinRing r g i).inUse = s.inUse := inUse_setRing ..

@[simp] theorem inUse_leaveRing (r : Radio) (g : GroupIndex) (i : StationIndex) :
    (s.leaveRing r g i).inUse = s.inUse := inUse_setRing ..

@[simp] theorem inUse_exitRing (i : StationIndex) : (s.exitRing i).inUse = s.inUse := by
  unfold State.exitRing
  split
  · exact inUse_leaveRing ..
  · rfl

@[simp] theorem inUse_enterReady (i : StationIndex) : (s.enterReady i).inUse = s.inUse := by
  rw [State.enterReady, inUse_joinRing]
  exact s.inUse_setStation_same rfl

/-! ### Whole queues and frames -/

/-- Frames that leave a queue for the release list stay in use. -/
theorem inUse_dropFrames {i : StationIndex} {drops : List Notice} {kept : List Slot} :
    (s.dropFrames i drops kept).inUse + (s.station i).queue.length =
      s.inUse + (drops.length + kept.length) := by
  rw [State.dropFrames, State.inUse_retireAll, Nat.add_right_comm, s.inUse_setStation]
  exact (Nat.add_assoc ..).trans (congrArg _ (Nat.add_comm ..))

@[simp] theorem inUse_retireQueue (i : StationIndex) (reason : Reason) :
    (s.retireQueue i reason).inUse = s.inUse := by
  have := s.inUse_setStation i { s.station i with queue := [] }
  rw [State.retireQueue_eq, State.inUse_retireAll, List.length_map]
  simpa using this

theorem inUse_freeStation (i : StationIndex) : (s.freeStation i).inUse ≤ s.inUse := by
  have := s.inUse_setStation i (s.station i).vacated
  have empty : (s.station i).vacated.queue.length = 0 := rfl
  rw [State.freeStation]
  omega

/-- The survivors and the retirements among fates are all of them. -/
theorem length_returns_retirements (fates : List Fate) :
    (returns fates).length + (retirements fates).length = fates.length := by
  induction fates with
  | nil => rfl
  | cons fate fates ih =>
    cases fate with
    | retired n =>
      rw [returns_retired_cons, retirements_retired_cons, List.length_cons, List.length_cons]
      omega
    | survives f =>
      rw [returns_survives_cons, retirements_survives_cons, List.length_cons, List.length_cons]
      omega

/-- The frames of a grant end are in use a second time until the grant's record is freed (R111). -/
theorem inUse_settleFrames (i : StationIndex) (fates : List Fate) :
    (s.settleFrames i fates).inUse = s.inUse + fates.length := by
  have lengths := length_returns_retirements
    (fates.map (Fate.underMark (s.station i).dismissMark))
  rw [List.length_map] at lengths
  rw [State.settleFrames_eq, State.inUse_retireAll]
  refine Nat.add_right_cancel (m := (s.station i).queue.length) ?_
  rw [Nat.add_right_comm, s.inUse_setStation, List.length_append]
  omega

theorem inUse_applyPending (i : StationIndex) : (s.applyPending i).inUse = s.inUse := by
  unfold State.applyPending
  split
  · rfl
  · rw [State.inUse_raise]
    exact s.inUse_setStation_same rfl

theorem inUse_chooseNext (i : StationIndex) : (s.chooseNext i).inUse = s.inUse := by
  unfold State.chooseNext
  split
  · exact s.inUse_setStation_same rfl
  · split
    · exact s.inUse_setStation_same rfl
    · exact inUse_enterReady ..

theorem inUse_handOver (i : StationIndex) : (s.handOver i).inUse ≤ s.inUse := by
  have untagged : (s.setStation i { s.station i with grantTag := none }).inUse = s.inUse :=
    s.inUse_setStation_same rfl
  unfold State.handOver
  simp only
  split
  · rw [State.inUse_raise, ← untagged]
    exact inUse_freeStation ..
  · rw [State.inUse_chooseNext, State.inUse_applyPending, untagged]

@[simp] theorem inUse_chargeCounter (r : Radio) (g : GroupIndex) (pass : PassKind) (n : Nat) :
    (s.chargeCounter r g pass n).inUse = s.inUse := by
  cases pass with
  | cap => rw [State.chargeCounter, State.inUse_raiseIf]; exact s.inUse_setRadio_same rfl
  | borrow => exact s.inUse_setRadio_same rfl

@[simp] theorem inUse_refundCounter (r : Radio) (g : GroupIndex) (pass : PassKind) (n : Nat) :
    (s.refundCounter r g pass n).inUse = s.inUse := by
  cases pass <;> exact s.inUse_setRadio_same rfl

@[simp] theorem inUse_correctCounter (r : Radio) (g : GroupIndex) (pass : PassKind) (actual est : Nat) :
    (s.correctCounter r g pass actual est).inUse = s.inUse := by
  unfold State.correctCounter
  split
  · exact inUse_chargeCounter ..
  · exact inUse_refundCounter ..

/-! ### Grants -/

/-- Freeing the record of the first grant with a tag frees its frames. -/
theorem inUse_dropGrant {r : Radio} {tag : Byte} {g : Grant} (h : (s.radio r).findGrant tag = some g) :
    (s.dropGrant r tag).inUse + g.frames.length = s.inUse := by
  have erased : ∀ gs : List Grant, gs.find? (fun g => g.tag = tag) = some g →
      ((gs.eraseP fun g => g.tag = tag).map (·.frames.length)).sum + g.frames.length =
        (gs.map (·.frames.length)).sum := by
    intro gs hgs
    induction gs with
    | nil => exact absurd hgs (by simp)
    | cons a gs ih =>
      by_cases ha : a.tag = tag
      · simp only [List.find?_cons, ha, decide_true, Option.some.injEq] at hgs
        subst hgs
        simp [ha, Nat.add_comm]
      · simp only [List.find?_cons, ha, decide_false] at hgs
        have := ih hgs
        simp only [List.eraseP_cons, ha, decide_false, cond_false, List.map_cons, List.sum_cons]
        omega
  have frames := erased _ h
  refine Nat.add_right_cancel (m := (s.radio r).lentCount) ?_
  rw [State.dropGrant, Nat.add_right_comm, s.inUse_setRadio]
  simp only [RadioUnit.lentCount]
  omega

variable {s}

/-- A grant end whose frames have as many fates leaves no more slots in use. -/
theorem inUse_dropGrant_of_work {r : Radio} {u : State} {g : Grant} (work : s.EndWork r u)
    (h : (s.radio r).findGrant g.tag = some g) (count : u.inUse ≤ s.inUse + g.frames.length) :
    (u.dropGrant r g.tag).inUse ≤ s.inUse := by
  have found : (u.radio r).findGrant g.tag = some g := by
    rw [RadioUnit.findGrant, work.grants]
    exact h
  have := u.inUse_dropGrant found
  omega

theorem inUse_endWithdrawn {r : Radio} {g : Grant} (h : (s.radio r).findGrant g.tag = some g) :
    (s.endWithdrawn r g).inUse ≤ s.inUse := by
  have refunded : ((s.settleFrames g.station (unsentFates g)).refundGrant r g).inUse =
      s.inUse + g.frames.length := by
    rw [State.refundGrant, State.inUse_refundCounter, State.inUse_setStation_same, State.inUse_settleFrames,
      unsentFates, List.length_map]
    rfl
  refine inUse_dropGrant_of_work ((EndWork.settleFrames ..).trans (((EndWork.setStation ..).trans
    (EndWork.refundCounter ..)).trans (EndWork.handOver ..))) h ?_
  exact (inUse_handOver _ _).trans (Nat.le_of_eq refunded)

theorem inUse_endReported {r : Radio} {g : Grant} (h : (s.radio r).findGrant g.tag = some g)
    (actual : Nat) (rate : BitVec 16) {outcomes : List FrameOutcome}
    (count : outcomes.length = g.frames.length) :
    (s.endReported r g actual rate outcomes).inUse ≤ s.inUse := by
  refine inUse_dropGrant_of_work (((EndWork.settleFrames ..).trans (EndWork.correctCounter ..)).trans
    ((EndWork.setStation ..).trans (EndWork.handOver ..))) h ?_
  refine (inUse_handOver _ _).trans ?_
  rw [State.inUse_setStation_same, State.inUse_correctCounter, State.inUse_settleFrames, reportFates,
    List.length_zipWith, count, Nat.min_self]
  rfl

theorem inUse_endTimedOut {r : Radio} {g : Grant} (h : (s.radio r).findGrant g.tag = some g) :
    (s.endTimedOut r g).inUse ≤ s.inUse := by
  rw [State.endTimedOut, State.inUse_raise, State.inUse_setRadio_same]
  case h => rfl
  refine inUse_dropGrant_of_work ((EndWork.settleFrames ..).trans ((EndWork.setStation ..).trans
    (EndWork.handOver ..))) h ?_
  refine (inUse_handOver _ _).trans ?_
  rw [State.inUse_setStation_same, State.inUse_settleFrames, unsentFates, List.length_map]
  rfl

theorem findGrant_tag {u : RadioUnit} {tag : Byte} {g : Grant} (h : u.findGrant tag = some g) :
    g.tag = tag := by
  simpa using List.find?_some h

theorem inUse_radioLinkReset (s : State) (r : Radio) : (s.radioLinkReset r).inUse ≤ s.inUse := by
  obtain ⟨ended, -⟩ := State.endGrants_keeps (P := fun u => u.inUse ≤ s.inUse) (r := r)
    (fun u g gs hu hle => (inUse_endWithdrawn (by simp [RadioUnit.findGrant, hu])).trans hle)
    (Nat.le_refl s.inUse)
  rw [State.radioLinkReset, State.inUse_raise, State.takeDown, State.inUse_setRadio_same]
  · exact ended
  · rfl

/-! ### Visits -/

theorem length_splitDrops (reason : Slot → Option Reason) (fs : List Slot) :
    (splitDrops reason fs).1.length + (splitDrops reason fs).2.length = fs.length := by
  conv_rhs => rw [← splitDrops_append reason fs]
  rw [List.length_append, List.length_map]

@[simp] theorem inUse_headDrops (s : State) (r : Radio) (i : StationIndex) :
    (s.headDrops r i).inUse = s.inUse := by
  have dropped := s.inUse_dropFrames (i := i)
    (drops := (splitDrops (s.dropReason r i) (s.station i).queue).1)
    (kept := (splitDrops (s.dropReason r i) (s.station i).queue).2)
  rw [length_splitDrops] at dropped
  exact Nat.add_right_cancel dropped

/-- Every slot that frame selection sees is taken, retired in passing or kept. -/
theorem length_selectFrames {reason : Slot → Option Reason} {time : Slot → Nat} {fits : Nat → Bool}
    (n sum : Nat) (fs : List Slot) :
    (selectFrames reason time fits n sum fs).taken.length +
      ((selectFrames reason time fits n sum fs).drops.length +
        (selectFrames reason time fits n sum fs).kept.length) = fs.length := by
  induction fs generalizing n sum with
  | nil => rfl
  | cons f fs ih =>
    unfold selectFrames
    split
    · have := ih n sum
      simp only [List.length_cons]
      omega
    · split
      · simp
      · split
        · have := ih (n + 1) (sum + time f)
          simp only [List.length_cons]
          omega
        · simp

theorem inUse_formGrant {r : Radio} {i : StationIndex} {pass : PassKind} {budget : Nat} {f : Slot}
    {rest : List Slot} (queue : (s.station i).queue = f :: rest) :
    (s.formGrant r i pass budget (s.selection r i budget f rest)).1.inUse = s.inUse := by
  generalize hsel : s.selection r i budget f rest = sel
  have lengths : sel.taken.length + (sel.drops.length + sel.kept.length) = rest.length + 1 := by
    have := length_selectFrames (reason := s.dropReason r i) (time := s.slotTime r i)
      (fits := fun sum => estimate (s.radio r).settings sum ≤ budget) 1 (s.slotTime r i f) rest
    rw [← hsel]
    simp only [State.selection, List.length_cons]
    omega
  have dropped := s.inUse_dropFrames (i := i) (drops := sel.drops) (kept := sel.kept)
  rw [queue, List.length_cons] at dropped
  have lent : (((s.dropFrames i sel.drops sel.kept).lendTo r (s.newGrant r i pass budget sel)).chargeCounter
      r (s.newGrant r i pass budget sel).group pass (s.newGrant r i pass budget sel).estimate).inUse =
      (s.dropFrames i sel.drops sel.kept).inUse := by
    rw [State.inUse_chargeCounter, State.lendTo, State.inUse_setStation_same, State.inUse_leaveRing]
    simp
  simp only [State.formGrant, State.recordGrant]
  generalize ((s.dropFrames i sel.drops sel.kept).lendTo r (s.newGrant r i pass budget sel)).chargeCounter
      r (s.newGrant r i pass budget sel).group pass (s.newGrant r i pass budget sel).estimate = u at lent ⊢
  refine Nat.add_right_cancel (m := (u.radio r).lentCount) ?_
  rw [u.inUse_setRadio]
  have frames : (s.newGrant r i pass budget sel).frames = sel.taken := rfl
  simp only [RadioUnit.lentCount, List.map_append, List.sum_append, List.map_cons, List.map_nil,
    List.sum_cons, List.sum_nil, frames]
  omega

end State

theorem Walk.SearchStep.inUse {r : Radio} {offer : Nat} {w v : Walk} (h : Walk.SearchStep r offer w v) :
    v.state.inUse = w.state.inUse := by
  cases h with
  | skip g => exact State.inUse_setRing ..
  | clear => exact State.inUse_setRadio_same _ rfl
  | empty head queue =>
    rw [State.visitEmpty, State.inUse_setStation_same, State.inUse_leaveRing, State.inUse_headDrops]
    simp
  | credit head queue deficit =>
    rw [State.visitCredit, State.rotateRing, State.inUse_setStation_same, State.inUse_setRing,
      State.inUse_headDrops]
    simp
  | passOver head queue deficit exceeds =>
    rw [State.visitPassOver, State.rotateRing]
    simp only
    rw [State.inUse_setRadio_same, State.inUse_setRing, State.inUse_headDrops]
    rfl

theorem Walk.Search.inUse {r : Radio} {offer : Nat} {w v : Walk} (h : Walk.Search r offer w v) :
    v.state.inUse = w.state.inUse := by
  induction h with
  | refl => rfl
  | tail _ step ih => rw [step.inUse, ih]

theorem Walk.Grants.inUse {r : Radio} {offer : Nat} {w v : Walk} (h : Walk.Grants r offer w v) :
    v.state.inUse = w.state.inUse := by
  obtain @⟨pass, g, i, ring, f, rest, allowed, head, queue, deficit, fits, formed, rfl⟩ := h
  rw [State.inUse_formGrant queue, State.inUse_headDrops]

theorem State.inUse_clearMarks (s : State) (r : Radio) : (s.clearMarks r).inUse = s.inUse :=
  s.inUse_setRadio_same rfl

theorem State.inUse_answerPass (s : State) (r : Radio) (reason : PassReason) :
    (s.answerPass r reason).inUse = s.inUse := by
  rw [State.answerPass, State.inUse_answer]
  exact s.inUse_setRadio_same rfl

theorem inUse_offerTaken (r : Radio) (airtime : BitVec 16) (s : State) :
    (offerTaken r airtime s).inUse = s.inUse := by
  have start : (s.offerStart r).state.inUse = s.inUse := s.inUse_clearMarks r
  have offered := offerTaken_offered r airtime s
  generalize offerTaken r airtime s = t at offered
  cases offered with
  | frozen | windowFull => exact s.inUse_answerPass r _
  | passed w walk hnone search =>
    rw [State.inUse_answerPass, State.inUse_clearMarks, search.inUse, start]
  | granted mid v g room search hnone grants hsome =>
    rw [State.inUse_answer, State.inUse_clearMarks, grants.inUse, search.inUse, start]

/-! ### Requests -/

/-- A QUEUE accepts an entry only into a free slot (R49). -/
theorem State.inUse_acceptEntry {s : State} {i : StationIndex} {e : QueueEntry}
    (h : s.entryOutcome i e = .done) : (s.acceptEntry i e).inUse ≤ Config.slotCount := by
  have free : s.freeCount ≠ 0 := by
    intro none
    unfold State.entryOutcome at h
    simp only [none] at h
    split at h
    · exact absurd h (by simp)
    · split at h
      · exact absurd h (by simp)
      · split at h <;> exact absurd h (by simp)
  have room : s.inUse < Config.slotCount := by
    have : s.freeCount = Config.slotCount - s.inUse := rfl
    omega
  rw [State.acceptEntry, State.inUse_raiseIf]
  refine Nat.le_of_add_le_add_right (b := (s.station i).queue.length) ?_
  rw [s.inUse_setStation, List.length_append, List.length_singleton]
  omega

theorem State.inUse_evaluateEntries {s : State} (i : StationIndex) (es : List QueueEntry)
    (h : s.inUse ≤ Config.slotCount) : (s.evaluateEntries i es).1.inUse ≤ Config.slotCount := by
  induction es generalizing s with
  | nil => exact h
  | cons e es ih =>
    unfold State.evaluateEntries
    refine ih ?_
    split
    · next accepted => exact State.inUse_acceptEntry accepted
    · exact h

theorem State.inUse_queueGrew (s : State) (i : StationIndex) : (s.queueGrew i).inUse = s.inUse := by
  unfold State.queueGrew
  simp only
  split
  · split
    · exact s.inUse_setStation_same rfl
    · split
      · exact s.inUse_enterReady i
      · exact s.inUse_setStation_same rfl
  · split
    · exact s.inUse_enterReady i
    · rfl
  · rfl

theorem State.inUse_queueEntries {s : State} (i : StationIndex) (es : List QueueEntry)
    (h : s.inUse ≤ Config.slotCount) : (s.queueEntries i es).1.inUse ≤ Config.slotCount := by
  have evaluated := State.inUse_evaluateEntries i es h
  unfold State.queueEntries
  simp only
  split
  · rwa [State.inUse_queueGrew]
  · exact evaluated

theorem State.inUse_dismissNow (s : State) (i : StationIndex) : (s.dismissNow i).inUse ≤ s.inUse := by
  refine (State.inUse_freeStation ..).trans ?_
  rw [State.inUse_retireQueue, State.inUse_exitRing]

theorem State.inUse_dismissLater (s : State) (i : StationIndex) : (s.dismissLater i).inUse = s.inUse := by
  rw [State.dismissLater]
  simp only
  rw [State.inUse_setStation_same, State.inUse_retireQueue]
  rfl

theorem State.inUse_changeGroup (s : State) (i : StationIndex) (g : GroupIndex) :
    (s.changeGroup i g).inUse = s.inUse := by
  unfold State.changeGroup
  split
  · rw [State.inUse_joinRing, State.inUse_setStation_same, State.inUse_exitRing]
    simp
  · exact s.inUse_setStation_same rfl

theorem State.inUse_moveNow (s : State) (i : StationIndex) (r : Radio) :
    (s.moveNow i r).inUse = s.inUse := by
  have moved : ((s.exitRing i).setStation i (s.movedRecord i r)).inUse = s.inUse := by
    rw [State.inUse_setStation_same, State.inUse_exitRing]
    simp [State.movedRecord]
  unfold State.moveNow
  simp only
  split
  · rw [State.inUse_enterReady, moved]
  · rw [State.inUse_enterReady, moved]
  · exact moved

theorem State.inUse_purgeStation (s : State) (i : StationIndex) : (s.purgeStation i).inUse = s.inUse := by
  have purged : ((s.exitRing i).retireQueue i .purged).inUse = s.inUse := by
    rw [State.inUse_retireQueue, State.inUse_exitRing]
  unfold State.purgeStation
  simp only
  split
  · exact purged
  · rw [State.inUse_setStation_same, purged]
    rfl

theorem State.inUse_noteStation (s : State) (i : StationIndex) (power : PowerPart) (rate : BitVec 16) :
    (s.noteStation i power rate).inUse = s.inUse := by
  have rated : (s.setStation i { s.station i with rate := noteRate (s.station i).rate rate }).inUse =
      s.inUse := s.inUse_setStation_same rfl
  unfold State.noteStation
  cases power with
  | absent | invalid => exact rated
  | value p =>
    rw [← rated]
    generalize s.setStation i { s.station i with rate := noteRate (s.station i).rate rate } = t
    change (t.notePower i p).inUse = t.inUse
    unfold State.notePower
    split
    · rw [State.inUse_setStation_same, State.inUse_exitRing]
      simp
    · rw [State.inUse_setStation_same, State.inUse_exitRing]
      simp
    · rw [State.inUse_enterReady, State.inUse_setStation_same]
      rfl
    · exact t.inUse_setStation_same rfl

/-! ### Every command -/

theorem State.ControlWrite.inUse_le {s u : State} (h : s.ControlWrite u) : u.inUse ≤ s.inUse := by
  cases h with
  | collected n =>
    have shorter : (s.releaseList.drop n).length ≤ s.releaseList.length := by simp
    exact Nat.add_le_add_left shorter _
  | radio r b => exact Nat.le_of_eq (s.inUse_setRadio_same rfl)
  | nothing | scanCursor | group | saved | restored | device | forced | masked => exact Nat.le_refl _

theorem State.WritesAndAnswers.inUse_le {s t : State} (h : s.WritesAndAnswers t) : t.inUse ≤ s.inUse := by
  obtain ⟨u, a, write, rfl⟩ := h
  rw [State.inUse_answer]
  exact write.inUse_le

theorem State.inUse_refuseMalformed (s : State) (l : Link) (kind : Byte) :
    (s.refuseMalformed l kind).inUse = s.inUse := by
  unfold State.refuseMalformed
  split <;> exact State.inUse_answer ..

theorem inUse_malformedTaken (l : Link) (kind : Byte) (s : State) :
    (malformedTaken l kind s).inUse = s.inUse := by
  unfold malformedTaken
  split
  · exact State.inUse_refuseMalformed ..
  · split
    · exact State.inUse_answer ..
    · exact State.inUse_refuseMalformed ..

theorem State.inUse_replyHeader (s : State) (kind : Byte) (code : Code) :
    (s.replyHeader kind code).inUse = s.inUse := State.inUse_answer ..

theorem State.inUse_refuseRadio (s : State) (r : Radio) (kind : Byte) (code : Code) :
    (s.refuseRadio r kind code).inUse = s.inUse := State.inUse_answer ..

section
variable (s : State)

theorem inUse_admitTaken (index : BitVec 16) (ssid : Byte) (owner : BitVec 2) (pinned : Bool)
    (role weight : Byte) (rate : BitVec 16) :
    (admitTaken index ssid owner pinned role weight rate s).inUse ≤ s.inUse := by
  unfold admitTaken
  split
  · next i r _ _ =>
    split
    · rw [State.inUse_replyHeader]
    · split
      · rw [State.inUse_replyHeader]
      · split
        · rw [State.inUse_replyHeader]
        · next g _ =>
          have filled := s.inUse_setStation i (admittedRecord g ssid r pinned role weight rate)
          have empty : (admittedRecord g ssid r pinned role weight rate).queue.length = 0 := rfl
          rw [State.reply, State.inUse_answer]
          omega
  · rw [State.inUse_replyHeader]

theorem inUse_dismissTaken (index : BitVec 16) : (dismissTaken index s).inUse ≤ s.inUse := by
  unfold dismissTaken
  split
  · rw [State.inUse_replyHeader]
  · split
    · rw [State.inUse_replyHeader]
    · rw [State.inUse_replyHeader]
      split
      · exact Nat.le_refl _
      · rw [State.inUse_dismissLater]
    · rw [State.inUse_replyHeader]
      exact State.inUse_dismissNow ..

theorem inUse_tuneTaken (index : BitVec 16) (weight : Byte) : (tuneTaken index weight s).inUse = s.inUse := by
  refine State.onStation_keeps (P := fun t => t.inUse = s.inUse)
    (fun _ => State.inUse_replyHeader ..) fun i _ => ?_
  rw [State.inUse_replyHeader]
  exact s.inUse_setStation_same rfl

theorem inUse_rematchTaken (index : BitVec 16) : (rematchTaken index s).inUse = s.inUse := by
  refine State.onStation_keeps (P := fun t => t.inUse = s.inUse)
    (fun _ => State.inUse_replyHeader ..) fun i _ => ?_
  split
  · exact State.inUse_replyHeader ..
  · rw [State.reply, State.inUse_answer]
    split
    · rfl
    · exact State.inUse_changeGroup ..

theorem inUse_pinTaken (index : BitVec 16) : (pinTaken index s).inUse = s.inUse := by
  refine State.onStation_keeps (P := fun t => t.inUse = s.inUse)
    (fun _ => State.inUse_replyHeader ..) fun i _ => ?_
  split
  · exact State.inUse_replyHeader ..
  · rw [State.inUse_replyHeader]
    exact s.inUse_setStation_same rfl

theorem inUse_unpinTaken (index : BitVec 16) : (unpinTaken index s).inUse = s.inUse := by
  refine State.onStation_keeps (P := fun t => t.inUse = s.inUse)
    (fun _ => State.inUse_replyHeader ..) fun i _ => ?_
  rw [State.inUse_replyHeader]
  exact s.inUse_setStation_same rfl

theorem inUse_purgeTaken (index : BitVec 16) : (purgeTaken index s).inUse = s.inUse := by
  refine State.onStation_keeps (P := fun t => t.inUse = s.inUse)
    (fun _ => State.inUse_replyHeader ..) fun i _ => ?_
  rw [State.reply, State.inUse_answer]
  exact State.inUse_purgeStation ..

theorem inUse_steerTaken (index : BitVec 16) (target : BitVec 2) :
    (steerTaken index target s).inUse = s.inUse := by
  refine steerTaken_keeps (P := fun t => t.inUse = s.inUse) (State.inUse_replyHeader ..)
    (fun _ _ => State.inUse_answer ..) (fun i r _ _ _ _ _ _ => ?_) fun i r _ _ _ _ _ _ => ?_
  · exact (State.inUse_answer ..).trans (s.inUse_setStation_same rfl)
  · exact (State.inUse_answer ..).trans (State.inUse_moveNow ..)

theorem inUse_queueTaken (index : BitVec 16) (es : List QueueEntry) (h : s.inUse ≤ Config.slotCount) :
    (queueTaken index es s).inUse ≤ Config.slotCount := by
  unfold queueTaken
  split
  · rwa [State.inUse_refuseMalformed]
  · split
    · rwa [State.inUse_replyHeader]
    · split
      · rwa [State.inUse_replyHeader]
      · simp only
        rw [State.reply, State.inUse_answer]
        exact State.inUse_queueEntries _ _ h

theorem inUse_noteTaken (r : Radio) (index : BitVec 16) (power : BitVec 2) (rate : BitVec 16) :
    (noteTaken r index power rate s).inUse = s.inUse := by
  unfold noteTaken
  split
  · exact State.inUse_refuseMalformed ..
  · split
    · exact State.inUse_refuseRadio ..
    · split
      · exact State.inUse_refuseRadio ..
      · split
        · exact State.inUse_refuseRadio ..
        · rw [State.inUse_answer]
          exact State.inUse_noteStation ..

theorem outcomesOf_length {fields : List (BitVec 2)} {outcomes : List FrameOutcome}
    (h : outcomesOf fields = some outcomes) : outcomes.length = fields.length := by
  induction fields generalizing outcomes with
  | nil => cases h; rfl
  | cons field fields ih =>
    rw [outcomesOf_cons] at h
    obtain ⟨o, -, h⟩ := Option.bind_eq_some_iff.1 h
    obtain ⟨os, hos, rfl⟩ := Option.map_eq_some_iff.1 h
    rw [List.length_cons, List.length_cons, ih hos]

theorem inUse_reportTaken (r : Radio) (tag : Byte) (airtime rate : BitVec 16) (fields : List (BitVec 2)) :
    (reportTaken r tag airtime rate fields s).inUse ≤ s.inUse := by
  unfold reportTaken
  split
  · rw [State.inUse_refuseRadio]
  · next g found =>
    split
    · rw [State.inUse_refuseRadio]
    · next count =>
      split
      · rw [State.inUse_refuseMalformed]
      · next outcomes hout =>
        rw [State.inUse_answer]
        refine State.inUse_endReported (by rwa [State.findGrant_tag found]) _ _ ?_
        rw [outcomesOf_length hout]
        exact not_not.1 count

theorem inUse_withdrawTaken (r : Radio) (tag : Byte) : (withdrawTaken r tag s).inUse ≤ s.inUse := by
  unfold withdrawTaken
  split
  · rw [State.inUse_refuseRadio]
  · next g found =>
    rw [State.inUse_answer]
    exact State.inUse_endWithdrawn (by rwa [State.findGrant_tag found])

theorem inUse_linkStartTaken (r : Radio) : (linkStartTaken r s).inUse ≤ s.inUse := by
  unfold linkStartTaken
  rw [State.inUse_answer, State.bringUp, State.inUse_setRadio_same]
  case h => rfl
  split
  · exact State.inUse_radioLinkReset ..
  · exact Nat.le_refl _

theorem State.inUse_setPort (l : Link) (p : Port) : (s.setPort l p).inUse = s.inUse := by
  cases l with
  | control => rfl
  | radio r => exact s.inUse_setRadio_same rfl

end

theorem inUse_reset {s : State} (stations : s.stations = State.reset.stations)
    (radio : ∀ r, s.radio r = RadioUnit.reset) (released : s.releaseList = []) : s.inUse = 0 := by
  have queued : s.queuedCount = 0 := by
    rw [State.queuedCount, stations]
    simp [State.reset, Station.vacant]
  have lent : s.lentCount = 0 := by
    have a : s.radioA = RadioUnit.reset := radio .a
    have b : s.radioB = RadioUnit.reset := radio .b
    rw [State.lentCount, a, b]
    rfl
  simp [State.inUse, queued, lent, State.retiredCount, released]

end Sys2Proof.Machine

namespace Sys2Proof.Safety

open Machine

theorem exec_keeps_poolBounded (c : Instr) (s t : State) (h : PoolBounded s) (e : exec c s = .next t) :
    PoolBounded t := by
  rw [poolBounded_iff] at h
  have of_le {u : State} (le : u.inUse ≤ s.inUse) : PoolBounded u := le.trans h
  have of_eq {u : State} (eq : u.inUse = s.inUse) : PoolBounded u := of_le (Nat.le_of_eq eq)
  cases c with
  | admitStation => exact State.onControl_keeps e h fun _ => of_le (inUse_admitTaken ..)
  | dismiss => exact State.onControl_keeps e h fun _ => of_le (inUse_dismissTaken ..)
  | tune => exact State.onControl_keeps e h fun _ => of_eq (inUse_tuneTaken ..)
  | rematch => exact State.onControl_keeps e h fun _ => of_eq (inUse_rematchTaken ..)
  | pin => exact State.onControl_keeps e h fun _ => of_eq (inUse_pinTaken ..)
  | unpin => exact State.onControl_keeps e h fun _ => of_eq (inUse_unpinTaken ..)
  | queue => exact State.onControl_keeps e h fun _ => inUse_queueTaken _ _ _ h
  | purge => exact State.onControl_keeps e h fun _ => of_eq (inUse_purgeTaken ..)
  | steer => exact State.onControl_keeps e h fun _ => of_eq (inUse_steerTaken ..)
  | stationRead =>
    refine State.onControl_keeps e h fun _ => of_eq ?_
    unfold stationReadTaken
    split <;> exact State.inUse_answer ..
  | groupRead =>
    refine State.onControl_keeps e h fun _ => of_eq ?_
    unfold groupReadTaken
    split <;> exact State.inUse_answer ..
  | radioRead =>
    refine State.onControl_keeps e h fun _ => of_eq ?_
    unfold radioReadTaken
    split <;> exact State.inUse_answer ..
  | deviceRead | eventRead => exact State.onControl_keeps e h fun _ => of_eq (State.inUse_answer ..)
  | stationScan => exact State.onControl_keeps e h fun _ => of_le (stationScanTaken_writes ..).inUse_le
  | collect => exact State.onControl_keeps e h fun _ => of_le (collectTaken_writes ..).inUse_le
  | groupSet => exact State.onControl_keeps e h fun _ => of_le (groupSetTaken_writes ..).inUse_le
  | profileSave => exact State.onControl_keeps e h fun _ => of_le (profileSaveTaken_writes _).inUse_le
  | profileRestore => exact State.onControl_keeps e h fun _ => of_le (profileRestoreTaken_writes _).inUse_le
  | radioSet => exact State.onControl_keeps e h fun _ => of_le (radioSetTaken_writes ..).inUse_le
  | deviceSet => exact State.onControl_keeps e h fun _ => of_le (deviceSetTaken_writes ..).inUse_le
  | eventClear | eventForce | eventMask => exact State.onControl_keeps e h fun _ => h
  | deviceReset =>
    refine State.onControl_keeps e h fun _ => of_le ?_
    rw [deviceResetTaken, State.inUse_replyHeader]
    exact (Nat.le_of_eq (inUse_reset rfl (fun r => by cases r <;> rfl) rfl)).trans (Nat.zero_le _)
  | linkStart => exact ignored_keeps e h fun _ => of_le (inUse_linkStartTaken ..)
  | offer =>
    exact State.onRadio_keeps e h (fun _ => of_eq (State.inUse_answer ..))
      fun _ _ => of_eq (inUse_offerTaken ..)
  | report =>
    exact State.onRadio_keeps e h (fun _ => of_eq (State.inUse_answer ..))
      fun _ _ => of_le (inUse_reportTaken ..)
  | withdraw =>
    exact State.onRadio_keeps e h (fun _ => of_eq (State.inUse_answer ..))
      fun _ _ => of_le (inUse_withdrawTaken ..)
  | note =>
    exact State.onRadio_keeps e h (fun _ => of_eq (State.inUse_answer ..))
      fun _ _ => of_eq (inUse_noteTaken ..)
  | malformedRecord => exact ignored_keeps e h fun _ => of_eq (inUse_malformedTaken ..)
  | recordWithoutHeader | recordWhileNotReady =>
    cases e
    exact of_eq (State.inUse_raiseIf ..)
  | answerSent l =>
    have e : execAnswerSent l s = .next t := e
    unfold execAnswerSent at e
    split at e
    · cases e; exact h
    · cases e
      split
      · exact of_eq (State.inUse_setPort ..)
      · exact of_eq (State.inUse_setPort ..)
  | holdTimerExpiry =>
    refine State.onExpiry_keeps e h fun _ => ?_
    split
    · exact of_eq (State.inUse_enterReady ..)
    · exact h
  | settleTimerExpiry =>
    refine State.onExpiry_keeps e h fun _ => ?_
    split
    · exact of_eq (s.inUse_setStation_same rfl)
    · exact h
  | grantTimeout r tag =>
    refine State.onExpiry_keeps e h fun _ => ?_
    split
    · exact h
    · next g found =>
      split
      · exact of_le (State.inUse_endTimedOut (by rwa [State.findGrant_tag found]))
      · exact h
  | epochTimerExpiry r =>
    refine State.onExpiry_keeps e h fun _ => ?_
    split
    · refine of_eq ?_
      rw [State.endEpoch, State.inUse_setRadio_same, State.rollover, State.inUse_setRadio_same] <;> rfl
    · exact h
  | millisecondClockAdvance =>
    refine State.onExpiry_keeps e h fun _ => ?_
    split <;> exact h
  | linkClockAbsent r =>
    cases e
    split
    · refine of_le ((State.inUse_radioLinkReset ..).trans (Nat.le_of_eq ?_))
      exact State.inUse_setPort ..
    · exact h
  | resetInputLow =>
    cases e
    exact of_le ((Nat.le_of_eq (inUse_reset rfl (fun r => by cases r <;> rfl) rfl)).trans (Nat.zero_le _))
  | resetInputHigh | freezeInputAsserted | freezeInputReleased => cases e; exact h
  | requestRecordBegins l =>
    cases e
    split
    · exact h
    · split
      · exact of_eq (State.inUse_setPort ..)
      · exact of_eq (State.inUse_raiseIf ..)
  | requestClockEdge r =>
    cases e
    split
    · exact of_eq (s.inUse_setRadio_same rfl)
    · exact h

/-- A cycle of the clock moves no slot. -/
theorem inUse_counted (s : State) : s.counted.inUse = s.inUse := by
  have lent (gs : List Grant) :
      (gs.map fun g => ({ g with timer := countDown g.timer } : Grant)).map (·.frames.length) =
        gs.map (·.frames.length) := by
    rw [List.map_map]
    rfl
  have watches (u : State) : u.tickWatches.inUse = u.inUse := rfl
  have timers : s.tickTimers.inUse = s.inUse := by
    have queued : s.tickTimers.queuedCount = s.queuedCount := by
      simp only [State.queuedCount, State.tickTimers, mapStations, Vector.toList, List.map_map]
      rfl
    have lentCount (u : RadioUnit) : u.tick.lentCount = u.lentCount := by
      rw [RadioUnit.lentCount, RadioUnit.tick]
      exact congrArg List.sum (lent u.grants)
    change s.tickTimers.queuedCount + (s.radioA.tick.lentCount + s.radioB.tick.lentCount) + _ = _
    rw [queued, lentCount, lentCount]
    rfl
  obtain ⟨-, h⟩ | ⟨-, -, h⟩ | ⟨-, -, h⟩ := s.counted_cases <;> rw [h]
  · exact watches s
  · rw [watches, timers]

/-- Settles O54: no operation leaves more slots in use but an accepted QUEUE entry, which finds a free one
(`State.inUse_acceptEntry`). -/
theorem poolBoundKept : Obligations.PoolBoundKept := fun _ _ h e =>
  step_keeps exec_keeps_poolBounded (fun _ _ ha => ha)
    (fun a _ ha => (Nat.le_of_eq (inUse_counted a)).trans ha) h e

end Sys2Proof.Safety
end

section
/-! Settings and group counters stay in their ranges (R16, R64, R75, R102, R179). -/

namespace Sys2Proof.Safety

open Machine

/-- The settings, the profile stack and the group counters are in range. -/
structure Ranged (s : State) : Prop where
  settings : SettingsInRange s
  counters : CountersBounded s

/-! ### Clamped values are in range -/

theorem clampTo_mem {lo hi : Nat} (h : lo ≤ hi) (n : Nat) : lo ≤ clampTo lo hi n ∧ clampTo lo hi n ≤ hi := by
  unfold clampTo
  omega

theorem groupInRange_groupSettingsOf (b : GroupBlock) : GroupInRange (groupSettingsOf b) where
  quantum := clampTo_mem (by decide) _
  cap := (clampTo_mem (by decide) _).2
  ceiling := clampTo_mem (by decide) _
  holdTime := (clampTo_mem (by decide) _).2
  releaseCount := clampTo_mem (by decide) _
  retryLimit := clampTo_mem (by decide) _
  lifetime := (clampTo_mem (by decide) _).2
  queueLimit := clampTo_mem (by decide) _

theorem radioInRange_radioSettingsOf (b : RadioBlock) : RadioInRange (radioSettingsOf b) where
  epochLength := clampTo_mem (by decide) _
  ppduOverhead := (clampTo_mem (by decide) _).2
  frameOverhead := (clampTo_mem (by decide) _).2
  grantTimeout := clampTo_mem (by decide) _
  defaultRate := clampTo_mem (by decide) _

theorem deviceInRange_deviceSettingsOf (b : DeviceBlock) (mode : FreezeMode) :
    DeviceInRange (deviceSettingsOf b mode) where
  poolReserve := (clampTo_mem (by decide) _).2
  watermark := clampTo_mem (by decide) _
  settleTime := (clampTo_mem (by decide) _).2

theorem ProfileInRange.set {p : Profile} (h : ProfileInRange p) (g : GroupIndex) {settings : GroupSettings}
    (hs : GroupInRange settings) : ProfileInRange (p.set g settings) := by
  intro k
  simp only [Fin.getElem_fin, Vector.getElem_set]
  split
  · exact hs
  · exact h k

/-! ### The operations -/

namespace Ranged

variable {s t : State}

theorem of_eq (h : Ranged s) (profile : t.profile = s.profile) (stack : t.stack = s.stack)
    (device : t.device = s.device)
    (radio : ∀ r, (t.radio r).settings = (s.radio r).settings ∧ (t.radio r).usage = (s.radio r).usage ∧
      (t.radio r).borrowed = (s.radio r).borrowed) : Ranged t where
  settings :=
    { profile := profile ▸ h.settings.profile
      stack := stack ▸ h.settings.stack
      depth := stack ▸ h.settings.depth
      radios := fun r => (radio r).1 ▸ h.settings.radios r
      device := device ▸ h.settings.device }
  counters r g := by
    rw [State.usage, (radio r).2.1, State.borrowed, (radio r).2.2]
    exact h.counters r g

theorem stationWork (h : Ranged s) (work : s.StationWork t) : Ranged t :=
  h.of_eq work.profile work.stack work.device fun r => by rw [work.radio r]; exact ⟨rfl, rfl, rfl⟩

/-- Writing a radio's record with settings and counters in range. -/
theorem setRadio (h : Ranged s) {r : Radio} {u : RadioUnit} (settings : RadioInRange u.settings)
    (counters : ∀ g : GroupIndex, u.usage[g] ≤ Config.counterMax ∧ u.borrowed[g] ≤ Config.counterMax) :
    Ranged (s.setRadio r u) where
  settings :=
    { profile := by rw [State.setRadio_profile]; exact h.settings.profile
      stack := by rw [State.setRadio_stack]; exact h.settings.stack
      depth := by rw [State.setRadio_stack]; exact h.settings.depth
      radios := fun q => by
        rw [State.radio_setRadio]
        split
        · exact settings
        · exact h.settings.radios q
      device := by rw [State.setRadio_device]; exact h.settings.device }
  counters q g := by
    rw [State.usage, State.borrowed, State.radio_setRadio]
    split
    · exact counters g
    · exact h.counters q g

/-- Writing a radio's record, its settings and group counters apart. -/
theorem setRadio_same (h : Ranged s) {r : Radio} {u : RadioUnit}
    (settings : u.settings = (s.radio r).settings) (usage : u.usage = (s.radio r).usage)
    (borrowed : u.borrowed = (s.radio r).borrowed) : Ranged (s.setRadio r u) :=
  h.setRadio (settings ▸ h.settings.radios r) fun g => by rw [usage, borrowed]; exact h.counters r g

theorem answer (h : Ranged s) (l : Link) (a : Answer) : Ranged (s.answer l a) := by
  cases l with
  | control => exact h.of_eq rfl rfl rfl fun r => by cases r <;> exact ⟨rfl, rfl, rfl⟩
  | radio r => exact h.setRadio_same rfl rfl rfl

theorem answersOn (h : Ranged s) {l : Link} (answers : s.AnswersOn l t) : Ranged t := by
  obtain ⟨u, a, work, rfl⟩ := answers
  exact (h.stationWork work).answer l a

theorem counter_set {v : Vector Nat 4} (h : ∀ g : GroupIndex, v[g] ≤ Config.counterMax) (g : GroupIndex)
    {n : Nat} (hn : n ≤ Config.counterMax) (k : GroupIndex) : (v.set g n)[k] ≤ Config.counterMax := by
  simp only [Fin.getElem_fin, Vector.getElem_set]
  split
  · exact hn
  · exact h k

theorem setUsage (h : Ranged s) (r : Radio) (g : GroupIndex) {n : Nat} (hn : n ≤ Config.counterMax) :
    Ranged (s.setUsage r g n) :=
  h.setRadio (h.settings.radios r)
    fun k => ⟨counter_set (fun g => (h.counters r g).1) g hn k, (h.counters r k).2⟩

theorem setBorrowed (h : Ranged s) (r : Radio) (g : GroupIndex) {n : Nat} (hn : n ≤ Config.counterMax) :
    Ranged (s.setBorrowed r g n) :=
  h.setRadio (h.settings.radios r)
    fun k => ⟨(h.counters r k).1, counter_set (fun g => (h.counters r g).2) g hn k⟩

theorem chargeCounter (h : Ranged s) (r : Radio) (g : GroupIndex) (pass : PassKind) (n : Nat) :
    Ranged (s.chargeCounter r g pass n) := by
  cases pass with
  | cap => exact (h.setUsage r g (Nat.min_le_right ..)).stationWork (.raiseIf ..)
  | borrow => exact h.setBorrowed r g (Nat.min_le_right ..)

theorem refundCounter (h : Ranged s) (r : Radio) (g : GroupIndex) (pass : PassKind) (n : Nat) :
    Ranged (s.refundCounter r g pass n) := by
  cases pass with
  | cap => exact h.setUsage r g ((Nat.sub_le ..).trans (h.counters r g).1)
  | borrow => exact h.setBorrowed r g ((Nat.sub_le ..).trans (h.counters r g).2)

theorem correctCounter (h : Ranged s) (r : Radio) (g : GroupIndex) (pass : PassKind) (actual est : Nat) :
    Ranged (s.correctCounter r g pass actual est) := by
  unfold State.correctCounter
  split
  · exact h.chargeCounter ..
  · exact h.refundCounter ..

theorem dropGrant (h : Ranged s) (r : Radio) (tag : Byte) : Ranged (s.dropGrant r tag) :=
  h.setRadio_same rfl rfl rfl

theorem endWithdrawn (h : Ranged s) (r : Radio) (g : Grant) : Ranged (s.endWithdrawn r g) :=
  ((((h.stationWork (.settleFrames ..)).stationWork (.setStation ..)).refundCounter ..).stationWork
    (.handOver ..)).dropGrant ..

theorem endReported (h : Ranged s) (r : Radio) (g : Grant) (actual : Nat) (rate : BitVec 16)
    (outcomes : List FrameOutcome) : Ranged (s.endReported r g actual rate outcomes) :=
  ((((h.stationWork (.settleFrames ..)).correctCounter ..).stationWork (.setStation ..)).stationWork
    (.handOver ..)).dropGrant ..

theorem endTimedOut (h : Ranged s) (r : Radio) (g : Grant) : Ranged (s.endTimedOut r g) := by
  obtain ⟨u, -, work, eq⟩ := s.endTimedOut_eq r g
  rw [eq]
  refine Ranged.stationWork ?_ (.raise ..)
  exact ((h.stationWork work).dropGrant r g.tag).setRadio_same rfl rfl rfl

theorem radioLinkReset (h : Ranged s) (r : Radio) : Ranged (s.radioLinkReset r) := by
  have ended := (State.endGrants_keeps (r := r) (fun u g _ _ hu => hu.endWithdrawn r g) h).1
  refine Ranged.stationWork ?_ (.raise ..)
  exact ended.setRadio_same rfl rfl rfl

theorem bringUp (h : Ranged s) (r : Radio) : Ranged (s.bringUp r) := by
  refine h.setRadio (h.settings.radios r) fun g => ?_
  fin_cases g <;> exact ⟨Nat.zero_le _, Nat.zero_le _⟩

theorem linkStartTaken (h : Ranged s) (r : Radio) : Ranged (Machine.linkStartTaken r s) := by
  unfold Machine.linkStartTaken
  refine Ranged.answer (Ranged.bringUp ?_ r) ..
  split
  · exact h.radioLinkReset r
  · exact h

theorem endEpoch (h : Ranged s) (r : Radio) : Ranged (s.endEpoch r) := by
  have carriedMax (usage cap : Nat) : carried usage cap ≤ Config.counterMax :=
    (Nat.min_le_left ..).trans (by decide)
  have rolled : Ranged (s.rollover r) := by
    refine h.setRadio (h.settings.radios r) fun g => ?_
    fin_cases g <;> exact ⟨carriedMax .., Nat.zero_le _⟩
  exact rolled.setRadio_same rfl rfl rfl

/-! ### OFFER -/

theorem searched (h : Ranged s) {r : Radio} (search : s.Searched r t) : Ranged t := by
  refine h.of_eq search.profile search.stack search.device fun q => ?_
  by_cases hq : q = r
  · subst hq; rw [search.self]; exact ⟨rfl, rfl, rfl⟩
  · rw [search.other q hq]; exact ⟨rfl, rfl, rfl⟩

theorem formGrant (h : Ranged s) (r : Radio) (i : StationIndex) (pass : PassKind) (budget : Nat)
    (sel : Selection) : Ranged (s.formGrant r i pass budget sel).1 :=
  (((h.stationWork (.dropFrames ..)).stationWork (.lendTo ..)).chargeCounter ..).setRadio_same rfl rfl rfl

theorem grants (h : Ranged s) {r : Radio} {offer : Nat} {w v : Walk} (hw : w.state = s)
    (grants : Walk.Grants r offer w v) : Ranged v.state := by
  subst hw
  obtain @⟨pass, g, i, ring, f, rest, allowed, head, queue, deficit, fits, formed, rfl⟩ := grants
  exact (h.stationWork (.headDrops ..)).formGrant ..

theorem answerPass (h : Ranged s) (r : Radio) (reason : PassReason) : Ranged (s.answerPass r reason) := by
  refine Ranged.answer ?_ ..
  exact h.setRadio_same rfl rfl rfl

theorem clearMarks (h : Ranged s) (r : Radio) : Ranged (s.clearMarks r) := h.setRadio_same rfl rfl rfl

theorem offerTaken (h : Ranged s) (r : Radio) (airtime : BitVec 16) :
    Ranged (Machine.offerTaken r airtime s) := by
  have offered := offerTaken_offered r airtime s
  generalize Machine.offerTaken r airtime s = t at offered
  cases offered with
  | frozen | windowFull => exact h.answerPass ..
  | passed w walk hnone search =>
    exact ((h.searched search.searched_start).clearMarks r).answerPass ..
  | granted mid v g room search hnone grants hsome =>
    exact (((h.searched search.searched_start).grants rfl grants).clearMarks r).answer ..

/-! ### Requests that write, and the clock -/

theorem controlWrite (h : Ranged s) (write : s.ControlWrite t) : Ranged t := by
  have same : ∀ r, (s.radio r).settings = (s.radio r).settings ∧ (s.radio r).usage = (s.radio r).usage ∧
      (s.radio r).borrowed = (s.radio r).borrowed := fun r => ⟨rfl, rfl, rfl⟩
  cases write with
  | nothing => exact h
  | scanCursor | collected | forced | masked =>
    exact h.of_eq rfl rfl rfl fun r => by cases r <;> exact ⟨rfl, rfl, rfl⟩
  | group g b =>
    exact ⟨{ h.settings with profile := h.settings.profile.set g (groupInRange_groupSettingsOf b) },
      h.counters⟩
  | saved room =>
    exact ⟨{ h.settings with
      stack := List.forall_mem_cons.2 ⟨h.settings.profile, h.settings.stack⟩
      depth := room }, h.counters⟩
  | restored p rest hstack =>
    have stack := h.settings.stack
    have depth := h.settings.depth
    rw [hstack] at stack depth
    exact ⟨{ h.settings with
      profile := stack p List.mem_cons_self
      stack := fun q hq => stack q (List.mem_cons_of_mem _ hq)
      depth := (Nat.le_succ _).trans depth }, h.counters⟩
  | radio r b => exact h.setRadio (radioInRange_radioSettingsOf b) (h.counters r)
  | device b mode =>
    exact ⟨{ h.settings with device := deviceInRange_deviceSettingsOf b mode }, h.counters⟩

theorem requestTaken (h : Ranged s) {c : Instr} (taken : s.RequestTaken c t) : Ranged t := by
  cases taken with
  | answers answers => exact h.answersOn answers
  | writes writes =>
    obtain ⟨u, a, write, rfl⟩ := writes
    exact (h.controlWrite write).answer ..
  | cleared kinds a =>
    exact Ranged.answer (s := { s with raw := s.raw &&& ~~~kinds })
      (h.of_eq rfl rfl rfl fun r => by cases r <;> exact ⟨rfl, rfl, rfl⟩) ..

theorem emptyPort (h : Ranged s) (r : Radio) : Ranged (s.emptyPort r) := by
  have waiting : Ranged (s.discardUntaken (.radio r) 0) :=
    h.of_eq rfl rfl rfl fun q => by rw [State.discardUntaken_radio]; exact ⟨rfl, rfl, rfl⟩
  unfold State.emptyPort State.setPort
  exact waiting.setRadio_same rfl rfl rfl

theorem counted (h : Ranged s) (n : Nat) : Ranged { s.counted with choices := n } := by
  obtain ⟨-, e⟩ | ⟨-, -, e⟩ | ⟨-, -, e⟩ := s.counted_cases <;> rw [e] <;>
    exact h.of_eq rfl rfl rfl fun r => by cases r <;> exact ⟨rfl, rfl, rfl⟩

theorem reset (radio : ∀ r, s.radio r = RadioUnit.reset) (profile : s.profile = Profile.default)
    (stack : s.stack = []) (device : s.device = DeviceSettings.default) : Ranged s where
  settings :=
    { profile := by
        rw [profile]
        intro g
        fin_cases g <;> constructor <;> decide
      stack := by rw [stack]; exact List.forall_mem_nil _
      depth := by rw [stack]; exact Nat.zero_le _
      radios := fun r => by rw [radio r]; constructor <;> decide
      device := by rw [device]; constructor <;> decide }
  counters r g := by
    rw [State.usage, State.borrowed, radio r]
    fin_cases g <;> exact ⟨Nat.zero_le _, Nat.zero_le _⟩

end Ranged

/-! ### Every command -/

theorem exec_keeps_ranged (c : Instr) (s t : State) (h : Ranged s) (e : exec c s = .next t) : Ranged t := by
  by_cases request : requestLink c = some .control ∧ c ≠ .deviceReset
  · obtain ⟨link, hreset⟩ := request
    exact exec_control_keeps link hreset e h fun _ u taken => h.requestTaken taken
  cases c with
  | deviceReset =>
    exact State.onControl_keeps e h fun _ => .reset (fun r => by cases r <;> rfl) rfl rfl rfl
  | linkStart r => exact ignored_keeps e h fun _ => h.linkStartTaken r
  | offer r airtime =>
    exact State.onRadio_keeps e h (fun _ => h.answer ..) fun _ _ => h.offerTaken ..
  | report r tag airtime rate fields =>
    refine State.onRadio_keeps e h (fun _ => h.answer ..) fun _ _ => ?_
    unfold reportTaken
    split
    · exact h.answer ..
    · split
      · exact h.answer ..
      · split
        · exact h.answersOn (State.answersOn_refuseMalformed ..)
        · exact (h.endReported ..).answer ..
  | withdraw r tag =>
    refine State.onRadio_keeps e h (fun _ => h.answer ..) fun _ _ => ?_
    unfold withdrawTaken
    split
    · exact h.answer ..
    · exact (h.endWithdrawn ..).answer ..
  | note r index power rate =>
    exact State.onRadio_keeps e h (fun _ => h.answer ..) fun _ _ => h.answersOn (noteTaken_answers ..)
  | malformedRecord l kind =>
    exact ignored_keeps e h fun _ => h.answersOn (malformedTaken_answers ..)
  | recordWithoutHeader | recordWhileNotReady => cases e; exact h.stationWork (.raiseIf ..)
  | answerSent l =>
    have e : execAnswerSent l s = .next t := e
    unfold execAnswerSent at e
    split at e
    · cases e; exact h
    · cases e
      cases l with
      | control => exact h.of_eq rfl rfl rfl fun r => by cases r <;> exact ⟨rfl, rfl, rfl⟩
      | radio r => exact h.setRadio_same rfl rfl rfl
  | holdTimerExpiry i =>
    refine State.onExpiry_keeps e h fun _ => ?_
    split
    · exact h.stationWork (.enterReady ..)
    · exact h
  | settleTimerExpiry i =>
    refine State.onExpiry_keeps e h fun _ => ?_
    split
    · exact h.stationWork (.setStation ..)
    · exact h
  | grantTimeout r tag =>
    refine State.onExpiry_keeps e h fun _ => ?_
    split
    · exact h
    · split
      · exact h.endTimedOut ..
      · exact h
  | epochTimerExpiry r =>
    refine State.onExpiry_keeps e h fun _ => ?_
    split
    · exact h.endEpoch r
    · exact h
  | millisecondClockAdvance =>
    refine State.onExpiry_keeps e h fun _ => ?_
    split
    · exact h.of_eq rfl rfl rfl fun r => by cases r <;> exact ⟨rfl, rfl, rfl⟩
    · exact h
  | linkClockAbsent r =>
    cases e
    split
    · exact (h.emptyPort r).radioLinkReset r
    · exact h
  | resetInputLow => cases e; exact .reset (fun r => by cases r <;> rfl) rfl rfl rfl
  | resetInputHigh | freezeInputAsserted | freezeInputReleased =>
    cases e
    exact h.of_eq rfl rfl rfl fun r => by cases r <;> exact ⟨rfl, rfl, rfl⟩
  | requestRecordBegins l =>
    cases e
    split
    · exact h.of_eq rfl rfl rfl fun r => by cases r <;> exact ⟨rfl, rfl, rfl⟩
    · split
      · cases l with
        | control => exact h.of_eq rfl rfl rfl fun r => by cases r <;> exact ⟨rfl, rfl, rfl⟩
        | radio r => exact h.setRadio_same rfl rfl rfl
      · refine Ranged.stationWork ?_ (.raiseIf ..)
        exact h.of_eq rfl rfl rfl fun r => by cases r <;> exact ⟨rfl, rfl, rfl⟩
  | requestClockEdge r =>
    cases e
    split
    · exact h.setRadio_same rfl rfl rfl
    · exact h
  | _ => exact absurd ⟨rfl, by simp⟩ request

/-- Settles O52: written settings are clamped, counters saturate, and nothing else touches them. -/
theorem rangesKept : Obligations.RangesKept := by
  intro s t settings counters e
  have kept : Ranged t := step_keeps exec_keeps_ranged
    (fun a cs h => h.of_eq rfl rfl rfl fun r => by cases r <;> exact ⟨rfl, rfl, rfl⟩)
    (fun a n h => h.counted n) ⟨settings, counters⟩ e
  exact ⟨kept.settings, kept.counters⟩

end Sys2Proof.Safety
end

section
/-! Stations, rings and grants in agreement: the part of `Safety.Coherent` that speaks of stations, and the same
with one station apart, which is how an operation on that station is taken through. -/

namespace Sys2Proof.Safety

open Machine

/-! ### The agreement -/

/-- A station's own record is sound, its slots and its timers are in range. -/
structure StationFits (i : StationIndex) (st : Station) : Prop where
  sound : StationSound st
  queued : ∀ f ∈ st.queue, SlotOf i f
  hold : ∀ n, st.hold = some n → Remains (usToCycles 4000) n
  settle : ∀ n, st.settle = some n → Remains (msToCycles 60000) n

/-- A grant is sound, its frames are its station's and its timer is in range. -/
structure GrantFits (s : State) (r : Radio) (g : Grant) : Prop where
  sound : GrantSound s r g
  lent : ∀ f ∈ g.frames, SlotOf g.station f
  timer : Remains (usToCycles 65535) g.timer

/-- Stations, rings, grants and notices agree. -/
structure StationsAgree (s : State) : Prop where
  fits : ∀ i, StationFits i (s.station i)
  rings : RingsAgree s
  grants : ∀ r, ∀ g ∈ (s.radio r).grants, GrantFits s r g
  named : ∀ i, (s.station i).state = .granted →
    ∃ g ∈ (s.radio (s.station i).owner).grants, g.station = i
  tags : ∀ r, ((s.radio r).grants.map (·.tag)).Nodup
  released : ∀ n ∈ s.releaseList, NoticeSound n

/-- Everything agrees but for one station, which is in no ring. -/
structure Apart (i : StationIndex) (s : State) : Prop where
  fits : ∀ j, j ≠ i → StationFits j (s.station j)
  member : ∀ r g j, j ∈ (s.radio r).ring g ↔
    j ≠ i ∧ (s.station j).state = .ready ∧ (s.station j).owner = r ∧ (s.station j).group = g
  once : ∀ r g, ((s.radio r).ring g).Nodup
  grants : ∀ r, ∀ g ∈ (s.radio r).grants, g.station ≠ i → GrantFits s r g
  named : ∀ j, j ≠ i → (s.station j).state = .granted →
    ∃ g ∈ (s.radio (s.station j).owner).grants, g.station = j
  tags : ∀ r, ((s.radio r).grants.map (·.tag)).Nodup
  released : ∀ n ∈ s.releaseList, NoticeSound n

/-- No outstanding grant names a station. -/
def Ungranted (i : StationIndex) (s : State) : Prop := ∀ r, ∀ g ∈ (s.radio r).grants, g.station ≠ i

section
variable {s t : State} {i : StationIndex}

/-! ### What a grant reads of the state -/

theorem GrantFits.congr {r : Radio} {g : Grant} (h : GrantFits s r g)
    (state : (t.station g.station).state = (s.station g.station).state)
    (owner : (t.station g.station).owner = (s.station g.station).owner)
    (tag : (t.station g.station).grantTag = (s.station g.station).grantTag)
    (deficit : (t.station g.station).deficit = (s.station g.station).deficit) : GrantFits t r g where
  sound :=
    { h.sound with
      granted := state.trans h.sound.granted
      owner := owner.trans h.sound.owner
      tag := tag.trans h.sound.tag
      before := by rw [deficit]; exact h.sound.before }
  lent := h.lent
  timer := h.timer

/-! ### Taking a station apart -/

/-- A grant names a GRANTED station. -/
theorem StationsAgree.ungranted (h : StationsAgree s) (state : (s.station i).state ≠ .granted) :
    Ungranted i s := by
  rintro r g hg rfl
  exact state (h.grants r g hg).sound.granted

theorem StationsAgree.apart (h : StationsAgree s) (state : (s.station i).state ≠ .ready) : Apart i s where
  fits j _ := h.fits j
  member r g j := by
    rw [h.rings.member]
    constructor
    · rintro ⟨ready, owner, group⟩
      exact ⟨fun e => state (e ▸ ready), ready, owner, group⟩
    · exact fun hj => hj.2
  once := h.rings.once
  grants r g hg _ := h.grants r g hg
  named j _ := h.named j
  tags := h.tags
  released := h.released

/-- A READY station that leaves its ring is in no ring. -/
theorem StationsAgree.apart_leaveRing (h : StationsAgree s) (ready : (s.station i).state = .ready) :
    Apart i (s.leaveRing (s.station i).owner (s.station i).group i) where
  fits j _ := by rw [State.leaveRing_station]; exact h.fits j
  member r g j := by
    rw [State.leaveRing_station]
    by_cases place : (s.station i).owner = r ∧ (s.station i).group = g
    · obtain ⟨rfl, rfl⟩ := place
      rw [State.leaveRing_ring_self, (h.rings.once _ _).mem_erase_iff, h.rings.member]
    · have same : ((s.leaveRing (s.station i).owner (s.station i).group i).radio r).ring g =
          (s.radio r).ring g := by
        by_cases owner : (s.station i).owner = r
        · subst owner
          have group : (s.station i).group.val ≠ g.val := fun e => place ⟨rfl, Fin.ext e⟩
          simp [State.leaveRing, RadioUnit.ring, Vector.getElem_set_ne, group]
        · rw [State.leaveRing_radio_ne _ _ _ (Ne.symm owner)]
      rw [same, h.rings.member]
      constructor
      · rintro ⟨hready, howner, hgroup⟩
        refine ⟨?_, hready, howner, hgroup⟩
        rintro rfl
        exact place ⟨howner, hgroup⟩
      · exact fun hj => hj.2
  once r g := by
    have sub : (((s.leaveRing (s.station i).owner (s.station i).group i).radio r).ring g).Sublist
        ((s.radio r).ring g) := by
      by_cases owner : (s.station i).owner = r
      · subst owner
        by_cases group : (s.station i).group = g
        · subst group
          rw [State.leaveRing_ring_self]
          exact List.erase_sublist
        · have hval : (s.station i).group.val ≠ g.val := fun e => group (Fin.ext e)
          simp [State.leaveRing, RadioUnit.ring, Vector.getElem_set_ne, hval]
      · rw [State.leaveRing_radio_ne _ _ _ (Ne.symm owner)]
    exact sub.nodup (h.rings.once r g)
  grants r g hg _ := by
    rw [(State.StationWork.leaveRing ..).radio r] at hg
    exact (h.grants r g hg).congr (by simp) (by simp) (by simp) (by simp)
  named j _ hj := by
    rw [State.leaveRing_station] at hj ⊢
    rw [(State.StationWork.leaveRing ..).radio]
    exact h.named j hj
  tags r := by rw [(State.StationWork.leaveRing ..).radio]; exact h.tags r
  released n hn := h.released n (by simpa [State.leaveRing] using hn)

theorem StationsAgree.apart_exitRing (h : StationsAgree s) (i : StationIndex) : Apart i (s.exitRing i) := by
  by_cases ready : (s.station i).state = .ready
  · rw [State.exitRing_ready ready]
    exact h.apart_leaveRing ready
  · rw [State.exitRing_eq_self ready]
    exact h.apart ready

theorem Ungranted.exitRing (h : Ungranted i s) : Ungranted i (s.exitRing i) := by
  intro r g hg
  rw [(State.StationWork.exitRing ..).radio] at hg
  exact h r g hg

/-! ### What keeps a station apart -/

/-- Whatever else is changed, the other stations, the rings, the grants and the notices tell. -/
theorem Apart.congr (h : Apart i s) (stations : ∀ j, j ≠ i → t.station j = s.station j)
    (rings : ∀ r g, (t.radio r).ring g = (s.radio r).ring g)
    (grants : ∀ r, (t.radio r).grants = (s.radio r).grants)
    (released : ∀ n ∈ t.releaseList, NoticeSound n) : Apart i t where
  fits j hj := by rw [stations j hj]; exact h.fits j hj
  member r g j := by
    rw [rings, h.member]
    constructor <;> rintro ⟨hj, rest⟩
    · exact ⟨hj, by rwa [stations j hj]⟩
    · exact ⟨hj, by rwa [stations j hj] at rest⟩
  once r g := by rw [rings]; exact h.once r g
  grants r g hg hne := by
    rw [grants] at hg
    exact (h.grants r g hg hne).congr (by rw [stations _ hne]) (by rw [stations _ hne])
      (by rw [stations _ hne]) (by rw [stations _ hne])
  named j hj granted := by
    rw [stations j hj] at granted ⊢
    rw [grants]
    exact h.named j hj granted
  tags r := by rw [grants]; exact h.tags r
  released := released

theorem Ungranted.congr (h : Ungranted i s) (grants : ∀ r, (t.radio r).grants = (s.radio r).grants) :
    Ungranted i t := by
  intro r g hg
  rw [grants] at hg
  exact h r g hg

theorem Apart.setStation (h : Apart i s) (st : Station) : Apart i (s.setStation i st) :=
  h.congr (fun _ hj => s.station_setStation_ne st hj.symm) (fun r g => by simp) (fun r => by simp) h.released

theorem Apart.raise (h : Apart i s) (k : EventKind) : Apart i (s.raise k) :=
  h.congr (fun _ _ => rfl) (fun r g => by simp) (fun r => by simp) h.released

theorem Apart.retireAll (h : Apart i s) {ns : List Notice} (sound : ∀ n ∈ ns, NoticeSound n) :
    Apart i (s.retireAll ns) := by
  refine h.congr (fun _ _ => by simp) (fun r g => by simp) (fun r => by simp) fun n hn => ?_
  rw [State.retireAll_releaseList, List.mem_append] at hn
  exact hn.elim (h.released n) (sound n)

/-- Writing a radio's record, its rings and grants apart. -/
theorem Apart.setRadio (h : Apart i s) {r : Radio} {u : RadioUnit} (rings : u.rings = (s.radio r).rings)
    (grants : u.grants = (s.radio r).grants) : Apart i (s.setRadio r u) := by
  refine h.congr (fun _ _ => by simp) (fun q g => ?_) (fun q => ?_) (by simpa using h.released)
  · rw [State.radio_setRadio]
    split
    · next e => subst e; rw [RadioUnit.ring, rings, RadioUnit.ring]
    · rfl
  · rw [State.radio_setRadio]
    split
    · next e => subst e; exact grants
    · rfl

theorem Apart.chargeCounter (h : Apart i s) (r : Radio) (g : GroupIndex) (pass : PassKind) (n : Nat) :
    Apart i (s.chargeCounter r g pass n) := by
  cases pass with
  | cap =>
    have charged : Apart i (s.setUsage r g (min (s.usage r g + n) Config.counterMax)) :=
      h.setRadio rfl rfl
    unfold State.chargeCounter State.raiseIf
    simp only
    split
    · exact charged.raise _
    · exact charged
  | borrow => exact h.setRadio rfl rfl

theorem Apart.refundCounter (h : Apart i s) (r : Radio) (g : GroupIndex) (pass : PassKind) (n : Nat) :
    Apart i (s.refundCounter r g pass n) := by
  cases pass <;> exact h.setRadio rfl rfl

theorem Apart.correctCounter (h : Apart i s) (r : Radio) (g : GroupIndex) (pass : PassKind)
    (actual est : Nat) : Apart i (s.correctCounter r g pass actual est) := by
  unfold State.correctCounter
  split
  · exact h.chargeCounter ..
  · exact h.refundCounter ..

/-! ### Putting the station back -/

/-- A station that is not READY is put back where it stands. -/
theorem Apart.close (h : Apart i s) (fits : StationFits i (s.station i))
    (state : (s.station i).state ≠ .ready)
    (grants : ∀ r, ∀ g ∈ (s.radio r).grants, g.station = i → GrantFits s r g)
    (named : (s.station i).state = .granted →
      ∃ g ∈ (s.radio (s.station i).owner).grants, g.station = i) : StationsAgree s where
  fits j := by
    by_cases hj : j = i
    · subst hj; exact fits
    · exact h.fits j hj
  rings :=
    { member := fun r g j => by
        rw [h.member]
        constructor
        · exact fun hj => hj.2
        · rintro ⟨ready, rest⟩
          exact ⟨fun e => state (e ▸ ready), ready, rest⟩
      once := h.once }
  grants r g hg := by
    by_cases hi : g.station = i
    · exact grants r g hg hi
    · exact h.grants r g hg hi
  named j hj := by
    by_cases hi : j = i
    · subst hi; exact named hj
    · exact h.named j hi hj
  tags := h.tags
  released := h.released

/-- A station without a grant that is neither READY nor GRANTED is put back where it stands. -/
theorem Apart.close_off (h : Apart i s) (free : Ungranted i s) (fits : StationFits i (s.station i))
    (state : (s.station i).state ≠ .ready) (granted : (s.station i).state ≠ .granted) : StationsAgree s :=
  h.close fits state (fun r g hg hi => absurd hi (free r g hg)) fun hg => absurd hg granted

/-- A READY station joins the ring of its owner and group. -/
theorem Apart.close_join (h : Apart i s) (free : Ungranted i s) (fits : StationFits i (s.station i))
    (ready : (s.station i).state = .ready) :
    StationsAgree (s.joinRing (s.station i).owner (s.station i).group i) where
  fits j := by
    rw [State.joinRing_station]
    by_cases hj : j = i
    · subst hj; exact fits
    · exact h.fits j hj
  rings := by
    have ring : ∀ r g, ((s.joinRing (s.station i).owner (s.station i).group i).radio r).ring g =
        if (s.station i).owner = r ∧ (s.station i).group = g then (s.radio r).ring g ++ [i]
        else (s.radio r).ring g := by
      intro r g
      split
      · next place =>
        obtain ⟨rfl, rfl⟩ := place
        exact State.joinRing_ring_self ..
      · next place =>
        by_cases owner : (s.station i).owner = r
        · subst owner
          have hval : (s.station i).group.val ≠ g.val := fun e => place ⟨rfl, Fin.ext e⟩
          simp [State.joinRing, RadioUnit.ring, Vector.getElem_set_ne, hval]
        · rw [State.joinRing, State.setRing_radio_ne _ _ _ owner]
    have absent : ∀ r g, i ∉ (s.radio r).ring g := fun r g hi => ((h.member r g i).1 hi).1 rfl
    constructor
    · intro r g j
      rw [ring, State.joinRing_station]
      by_cases hj : j = i
      · subst hj
        split
        · next place => simp [ready, place.1, place.2]
        · next place =>
          constructor
          · exact fun hi => absurd hi (absent r g)
          · exact fun hi => absurd hi.2 place
      · split
        · rw [List.mem_append, List.mem_singleton, h.member]
          tauto
        · rw [h.member]
          tauto
    · intro r g
      rw [ring]
      split
      · rw [List.nodup_append]
        refine ⟨h.once r g, List.nodup_singleton i, ?_⟩
        rintro a ha b hb rfl
        exact absent r g (List.mem_singleton.1 hb ▸ ha)
      · exact h.once r g
  grants r g hg := by
    rw [(State.StationWork.joinRing ..).radio] at hg
    exact (h.grants r g hg (free r g hg)).congr (by simp) (by simp) (by simp) (by simp)
  named j hj := by
    rw [State.joinRing_station] at hj ⊢
    rw [(State.StationWork.joinRing ..).radio]
    have hne : j ≠ i := fun e => by simp [e, ready] at hj
    exact h.named j hne hj
  tags r := by rw [(State.StationWork.joinRing ..).radio]; exact h.tags r
  released n hn := h.released n (by simpa [State.joinRing] using hn)

/-- A station that enters READY. -/
theorem Apart.close_enterReady (h : Apart i s) (free : Ungranted i s)
    (fits : StationFits i { s.station i with state := .ready, hold := none }) :
    StationsAgree (s.enterReady i) := by
  have set := h.setStation { s.station i with state := .ready, hold := none }
  have joined := set.close_join (free.congr fun r => by simp) (by simpa using fits) (by simp)
  simpa [State.enterReady] using joined

/-! ### Writes that keep a station where it stands -/

/-- A write that leaves a station in its state and its place, with the rings up to their order. -/
theorem StationsAgree.update (h : StationsAgree s) (stations : ∀ j, j ≠ i → t.station j = s.station j)
    (fits : StationFits i (t.station i)) (state : (t.station i).state = (s.station i).state)
    (owner : (t.station i).owner = (s.station i).owner) (group : (s.station i).state = .ready →
      (t.station i).group = (s.station i).group)
    (granted : (s.station i).state = .granted → (t.station i).grantTag = (s.station i).grantTag ∧
      (t.station i).deficit = (s.station i).deficit)
    (rings : ∀ r g, ((t.radio r).ring g).Perm ((s.radio r).ring g))
    (grants : ∀ r, (t.radio r).grants = (s.radio r).grants)
    (released : ∀ n ∈ t.releaseList, NoticeSound n) : StationsAgree t where
  fits j := by
    by_cases hj : j = i
    · subst hj; exact fits
    · rw [stations j hj]; exact h.fits j
  rings :=
    { member := fun r g j => by
        rw [(rings r g).mem_iff, h.rings.member]
        by_cases hj : j = i
        · subst hj
          rw [state, owner]
          constructor <;> rintro ⟨ready, howner, hgroup⟩
          · exact ⟨ready, howner, by rwa [group ready]⟩
          · exact ⟨ready, howner, by rwa [group ready] at hgroup⟩
        · rw [stations j hj]
      once := fun r g => (rings r g).nodup_iff.2 (h.rings.once r g) }
  grants r g hg := by
    rw [grants] at hg
    have old := h.grants r g hg
    by_cases hi : g.station = i
    · subst hi
      obtain ⟨tag, deficit⟩ := granted old.sound.granted
      exact old.congr state owner tag deficit
    · exact old.congr (by rw [stations _ hi]) (by rw [stations _ hi]) (by rw [stations _ hi])
        (by rw [stations _ hi])
  named j hj := by
    by_cases hi : j = i
    · subst hi
      rw [owner, grants]
      exact h.named j (state ▸ hj)
    · rw [stations j hi] at hj ⊢
      rw [grants]
      exact h.named j hj
  tags r := by rw [grants]; exact h.tags r
  released := released

theorem StationsAgree.congr (h : StationsAgree s) (stations : ∀ j, t.station j = s.station j)
    (rings : ∀ r g, ((t.radio r).ring g).Perm ((s.radio r).ring g))
    (grants : ∀ r, (t.radio r).grants = (s.radio r).grants)
    (released : ∀ n ∈ t.releaseList, NoticeSound n) : StationsAgree t :=
  h.update (i := 0) (fun j _ => stations j) (stations 0 ▸ h.fits 0) (by rw [stations]) (by rw [stations])
    (fun _ => by rw [stations]) (fun _ => by rw [stations]; exact ⟨rfl, rfl⟩) rings grants released

theorem StationsAgree.setStation (h : StationsAgree s) {st : Station} (fits : StationFits i st)
    (state : st.state = (s.station i).state) (owner : st.owner = (s.station i).owner)
    (group : (s.station i).state = .ready → st.group = (s.station i).group)
    (granted : (s.station i).state = .granted → st.grantTag = (s.station i).grantTag ∧
      st.deficit = (s.station i).deficit) : StationsAgree (s.setStation i st) :=
  h.update (i := i) (fun _ hj => s.station_setStation_ne st hj.symm) (by simpa using fits)
    (by simpa using state) (by simpa using owner) (by simpa using group) (by simpa using granted)
    (fun r g => by simp) (fun r => by simp) h.released

theorem StationsAgree.raise (h : StationsAgree s) (k : EventKind) : StationsAgree (s.raise k) :=
  h.congr (fun _ => rfl) (fun r g => by simp) (fun r => by simp) h.released

theorem StationsAgree.raiseIf (h : StationsAgree s) (c : Prop) [Decidable c] (k : EventKind) :
    StationsAgree (s.raiseIf c k) :=
  h.congr (fun _ => by simp) (fun r g => by simp) (fun r => by simp) (by simpa using h.released)

theorem StationsAgree.retireAll (h : StationsAgree s) {ns : List Notice}
    (sound : ∀ n ∈ ns, NoticeSound n) : StationsAgree (s.retireAll ns) := by
  refine h.congr (fun _ => by simp) (fun r g => by simp) (fun r => by simp) fun n hn => ?_
  rw [State.retireAll_releaseList, List.mem_append] at hn
  exact hn.elim (h.released n) (sound n)

/-- Writing a radio's record, its rings and grants apart. -/
theorem StationsAgree.setRadio (h : StationsAgree s) {r : Radio} {u : RadioUnit}
    (rings : u.rings = (s.radio r).rings) (grants : u.grants = (s.radio r).grants) :
    StationsAgree (s.setRadio r u) := by
  refine h.congr (fun _ => by simp) (fun q g => ?_) (fun q => ?_) (by simpa using h.released)
  · rw [State.radio_setRadio]
    split
    · next e => subst e; rw [RadioUnit.ring, rings, RadioUnit.ring]
    · exact List.Perm.refl _
  · rw [State.radio_setRadio]
    split
    · next e => subst e; exact grants
    · rfl

theorem StationsAgree.answer (h : StationsAgree s) (l : Link) (a : Answer) : StationsAgree (s.answer l a) := by
  cases l with
  | control =>
    exact h.congr (fun _ => rfl) (fun r g => by cases r <;> exact List.Perm.refl _)
      (fun r => by cases r <;> rfl) h.released
  | radio r => exact h.setRadio rfl rfl

end

end Sys2Proof.Safety
end

section
/-! The Station Table's single-station requests (chapters 2 and 3): TUNE, REMATCH, PIN, UNPIN and PURGE. -/

namespace Sys2Proof.Machine

/-! ### Requests that name a station (R26) -/

section
variable {s : State} {index : BitVec 16} {i : StationIndex}

theorem State.onStation_range (kind : Byte) (h : 512 ≤ index.toNat) (act : StationIndex → State) :
    s.onStation kind index act = s.replyHeader kind .range := by
  rw [State.onStation, stationOf_none h]

theorem State.onStation_noStation (kind : Byte) (hindex : index.toNat = i.val)
    (h : (s.station i).state = .free ∨ (s.station i).dismissMark = true) (act : StationIndex → State) :
    s.onStation kind index act = s.replyHeader kind .noStation := by
  have refused : (s.station i).actionable = false := by simpa using (Station.not_actionable_iff _).2 h
  simp [State.onStation, stationOf_eq hindex, refused]

theorem State.onStation_admitted (kind : Byte) (hindex : index.toNat = i.val)
    (h : Spec.admitted (s.station i)) (act : StationIndex → State) : s.onStation kind index act = act i :=
  State.onStation_taken hindex ((Station.actionable_iff_admitted _).2 h) kind act

end

/-- Settles O14: the five requests share the check of R26. -/
theorem stationRequestsRefused : Obligations.StationRequestsRefused := by
  intro s index weight c kind hopen hc
  have shared : ∃ act, exec c s = .next (s.onStation kind index act) := by
    simp only [List.mem_cons, Prod.mk.injEq, List.not_mem_nil, or_false] at hc
    obtain ⟨rfl, rfl⟩ | ⟨rfl, rfl⟩ | ⟨rfl, rfl⟩ | ⟨rfl, rfl⟩ | ⟨rfl, rfl⟩ := hc <;>
      exact ⟨_, State.onControl_of_open hopen _⟩
  obtain ⟨act, hexec⟩ := shared
  rw [hexec]
  exact ⟨fun h => congrArg _ (State.onStation_range kind h act),
    fun i hindex h => congrArg _ (State.onStation_noStation kind hindex h act)⟩

/-- Settles O11. -/
theorem tuneWritesWeight : Obligations.TuneWritesWeight := by
  intro s index weight i hopen hindex hadmitted
  have hexec : exec (.tune index weight) s = .next (tuneTaken index weight s) := State.onControl_of_open hopen _
  rw [hexec, tuneTaken, State.onStation_admitted _ hindex hadmitted, writeCode_weightAdjusted,
    clampWeight_eq_nearest]
  rfl

/-- Settles O13: PIN by whether a pending owner is present. -/
theorem pinAndUnpin : Obligations.PinAndUnpin := by
  intro s index i hopen hindex hadmitted
  have hpin : exec (.pin index) s = .next (pinTaken index s) := State.onControl_of_open hopen _
  have hunpin : exec (.unpin index) s = .next (unpinTaken index s) := State.onControl_of_open hopen _
  rw [hpin, hunpin, pinTaken, unpinTaken, State.onStation_admitted _ hindex hadmitted,
    State.onStation_admitted _ hindex hadmitted]
  refine ⟨fun hsome => ?_, fun hnone => ?_, rfl⟩
  · rw [if_pos (Option.isSome_iff_ne_none.2 hsome)]
    rfl
  · rw [if_neg (by simp [hnone])]
    rfl

/-! ### REMATCH (R35, R36, R67) -/

section
variable {s : State} {index : BitVec 16} {i : StationIndex}

theorem rematchTaken_refused {code : Code} (hindex : index.toNat = i.val) (hadmitted : Spec.admitted (s.station i))
    (hmatch : s.matchGroup (s.station i).ssid.toNat (s.station i).role = .error code) :
    rematchTaken index s = s.replyHeader Kind.rematchReq code := by
  rw [rematchTaken, State.onStation_admitted _ hindex hadmitted, hmatch]

theorem rematchTaken_matched {g : GroupIndex} (hindex : index.toNat = i.val)
    (hadmitted : Spec.admitted (s.station i))
    (hmatch : s.matchGroup (s.station i).ssid.toNat (s.station i).role = .ok g) :
    rematchTaken index s = (if g = (s.station i).group then s else s.changeGroup i g).reply Kind.rematchReq
      .done (.stationGroup i g) := by
  rw [rematchTaken, State.onStation_admitted _ hindex hadmitted, hmatch]

end

/-- Settles O12: the claiming group is the one that selector matching finds, and a READY station's change of
group is a move between two rings. -/
theorem rematchFollowsSelectors : Obligations.RematchFollowsSelectors := by
  intro s index i hopen hindex hadmitted
  have hexec : exec (.rematch index) s = .next (rematchTaken index s) := State.onControl_of_open hopen _
  simp only [hexec, Spec.header_eq, Spec.sends_control, Spec.withStation_eq, Spec.leaves_eq, Spec.joins_eq]
  refine ⟨fun hnone => ?_, fun g hclaims => ⟨fun hclosed => ?_, fun hopened hsame => ?_,
    fun hopened hother hstate => ?_, fun hopened hother hready => ?_⟩⟩
  · exact congrArg _ (rematchTaken_refused hindex hadmitted (State.matchGroup_noGroup hnone))
  · exact congrArg _ (rematchTaken_refused hindex hadmitted (State.matchGroup_closed hclaims hclosed))
  · rw [rematchTaken_matched hindex hadmitted (State.matchGroup_open hclaims hopened), if_pos hsame]
    rfl
  · rw [rematchTaken_matched hindex hadmitted (State.matchGroup_open hclaims hopened), if_neg hother,
      State.changeGroup, if_neg hstate]
    rfl
  · rw [rematchTaken_matched hindex hadmitted (State.matchGroup_open hclaims hopened), if_neg hother,
      State.changeGroup, if_pos hready]
    rfl

/-! ### PURGE (R57) -/

/-- A purged station: its notices, and its record with an empty queue, IDLE where it had no grant. -/
theorem State.purgeStation_granted {s : State} {i : StationIndex} (h : (s.station i).state = .granted) :
    s.purgeStation i = (s.retireAll (Spec.notices .purged (s.station i).queue)).setStation i
      { s.station i with queue := [] } := by
  have inNoRing : s.exitRing i = s := State.exitRing_eq_self (by simp [h])
  rw [State.purgeStation, if_pos h, inNoRing, State.retireQueue, State.retireAll_setStation]
  rfl

theorem State.purgeStation_ungranted {s : State} {i : StationIndex} (h : (s.station i).state ≠ .granted) :
    s.purgeStation i =
      ((s.exitRing i).retireAll (Spec.notices .purged (s.station i).queue)).setStation i
        { s.station i with queue := [], state := .idle, hold := none } := by
  rw [State.purgeStation, if_neg h, State.setStation_retireQueue, State.retireQueue_station_self,
    State.exitRing_station]

/-- Settles O18: by whether the station holds a grant. -/
theorem purgeRetiresQueue : Obligations.PurgeRetiresQueue := by
  intro s index i hopen hindex hadmitted
  have hexec : exec (.purge index) s = .next (purgeTaken index s) := State.onControl_of_open hopen _
  simp only [hexec, purgeTaken, State.onStation_admitted _ hindex hadmitted, Spec.sends_control,
    Spec.withStation_eq, Spec.leaves_eq, Spec.retired_eq]
  refine ⟨fun hgranted => ?_, fun hungranted => ?_⟩
  · rw [State.purgeStation_granted hgranted]
    rfl
  · rw [State.purgeStation_ungranted hungranted]
    rfl

end Sys2Proof.Machine
end

section
/-! Settings and figures (chapters 5 and 10): RADIO SET, DEVICE SET, DEVICE READ; the values of a reset, and the
budgets of chapter 1. -/

namespace Sys2Proof.Machine

/-! ### RADIO SET (R102, R103) -/

section
variable {s : State}

/-- Eight bits hold no frame overhead above 255 (R102). -/
theorem frameOverhead_clamped (b : RadioBlock) : clampTo 0 255 b.frameOverhead.toNat = b.frameOverhead.toNat :=
  (clampTo_eq_self_iff (by decide) _).2 ⟨Nat.zero_le _, Nat.le_of_lt_succ b.frameOverhead.isLt⟩

theorem radioAdjusted_eq_false_iff (b : RadioBlock) :
    radioAdjusted b = false ↔
      (10000 ≤ b.epochLength.toNat ∧ b.epochLength.toNat ≤ 1000000) ∧ b.ppduOverhead.toNat ≤ 1023 ∧
      1000 ≤ b.grantTimeout.toNat ∧ (10 ≤ b.defaultRate.toNat ∧ b.defaultRate.toNat ≤ 24000) := by
  have htimeout : clampTo 1000 65535 b.grantTimeout.toNat = b.grantTimeout.toNat ↔
      1000 ≤ b.grantTimeout.toNat := by
    rw [clampTo_eq_self_iff (by decide), and_iff_left (Nat.le_of_lt_succ b.grantTimeout.isLt)]
  simp [radioAdjusted, radioSettingsOf, htimeout, frameOverhead_clamped, clampTo_eq_self_iff, and_assoc]

theorem radioSettingsOf_eq_nearest (b : RadioBlock) :
    radioSettingsOf b =
      { epochLength := Spec.nearest 10000 1000000 b.epochLength.toNat
        ppduOverhead := Spec.nearest 0 1023 b.ppduOverhead.toNat
        frameOverhead := b.frameOverhead.toNat
        grantTimeout := Spec.nearest 1000 65535 b.grantTimeout.toNat
        defaultRate := Spec.nearest 10 24000 b.defaultRate.toNat } := by
  rw [radioSettingsOf, frameOverhead_clamped]
  simp [clampTo_eq_nearest]

end

/-- Settles O22: the settings written are the nearest ones (`radioSettingsOf_eq_nearest`), and the code says
whether all were in range (`radioAdjusted_eq_false_iff`). -/
theorem radioSetWrites : Obligations.RadioSetWrites := by
  intro s radio b hopen
  have hexec : exec (.radioSet radio b) s = .next (radioSetTaken radio b s) := State.onControl_of_open hopen _
  rw [hexec]
  refine ⟨fun hnone => ?_, ?_⟩
  · rw [radioSetTaken, radioOf_none hnone]
    rfl
  · rintro r rfl
    simp only [radioSetTaken, radioOf_radioCode, writeCode_eq_written (radioAdjusted_eq_false_iff b),
      radioSettingsOf_eq_nearest, Spec.withRadio_eq, Spec.sends_control]
    rfl

/-! ### DEVICE SET (R179, R180) -/

theorem freezeModeOf_none {field : BitVec 2} (h : field = 0 ∨ field = 3) : freezeModeOf field = none := by
  rcases h with rfl | rfl <;> rfl

theorem freezeModeOf_freezeModeCode (mode : FreezeMode) : freezeModeOf (freezeModeCode mode) = some mode := by
  cases mode <;> rfl

theorem deviceAdjusted_eq_false_iff (b : DeviceBlock) :
    deviceAdjusted b = false ↔
      b.poolReserve.toNat ≤ 2048 ∧ (1 ≤ b.watermark.toNat ∧ b.watermark.toNat ≤ 8192) ∧
      b.settleTime.toNat ≤ 60000 := by
  simp [deviceAdjusted, deviceSettingsOf, clampTo_eq_self_iff, and_assoc]

theorem deviceSettingsOf_eq_nearest (b : DeviceBlock) (mode : FreezeMode) :
    deviceSettingsOf b mode =
      { poolReserve := Spec.nearest 0 2048 b.poolReserve.toNat
        watermark := Spec.nearest 1 8192 b.watermark.toNat
        settleTime := Spec.nearest 0 60000 b.settleTime.toNat
        freezeMode := mode } := by
  simp [deviceSettingsOf, clampTo_eq_nearest]

/-- Settles O29: by whether the field names a mode. -/
theorem deviceSetWrites : Obligations.DeviceSetWrites := by
  intro s b hopen
  have hexec : exec (.deviceSet b) s = .next (deviceSetTaken b s) := State.onControl_of_open hopen _
  rw [hexec]
  refine ⟨fun hnone => ?_, fun mode hmode => ?_⟩
  · rw [deviceSetTaken, freezeModeOf_none hnone]
    rfl
  · have named : freezeModeOf b.freezeMode = some mode := hmode ▸ freezeModeOf_freezeModeCode mode
    simp only [deviceSetTaken, named, writeCode_eq_written (deviceAdjusted_eq_false_iff b),
      deviceSettingsOf_eq_nearest, Spec.sends_control]
    rfl

/-! ### DEVICE READ (R181) and the freeze (R176) -/

theorem State.frozen_iff (s : State) : s.frozen = true ↔ Spec.freeze s := by
  simp [State.frozen]

/-- Settles O30: the figures are the held ones; the free count is what the other three leave of 8192. -/
theorem deviceReadReturnsFigures : Obligations.DeviceReadReturnsFigures := by
  intro s hopen
  refine ⟨s.deviceFigures, State.onControl_of_open hopen _, rfl, rfl, rfl, rfl, fun bound => ?_,
    List.countP_eq_length_filter .., rfl, rfl, rfl, rfl, rfl, s.frozen_iff⟩
  have total : s.queuedCount + s.lentCount + s.retiredCount ≤ Config.slotCount := bound
  simp only [State.deviceFigures, State.freeCount, Config.slotCount] at total ⊢
  omega

/-- Settles O34. -/
theorem freezeInputFollowsPin : Obligations.FreezeInputFollowsPin := fun s => ⟨rfl, rfl, s.frozen_iff⟩

/-! ### Budgets (R8 to R11) -/

theorem State.budget_le (s : State) (r : Radio) (g : GroupIndex) (pass : PassKind) (offer : Nat) :
    s.budget r g pass offer ≤ offer := by
  cases pass <;> exact Nat.min_le_left ..

theorem clampOffer_le (airtime : BitVec 16) : clampOffer airtime ≤ Config.offerMax := Nat.min_le_right ..

/-- Settles O6. -/
theorem budgetBounds : Obligations.BudgetBounds := by
  intro s r g airtime
  refine ⟨rfl, (min_assoc ..).symm, fun pass => ?_, decide_eq_true_iff, ?_⟩
  · exact (s.budget_le r g pass _).trans (clampOffer_le airtime)
  · unfold State.capOf RadioUnit.epochLength
    cases (s.radio r).epoch.inForce <;> rfl

/-! ### The values of a reset (R42, R63, R64, R69, R102, R179) -/

theorem State.reset_station (i : StationIndex) : State.reset.station i = Station.vacant :=
  Vector.getElem_replicate _

theorem State.reset_radio (r : Radio) : State.reset.radio r = RadioUnit.reset := by cases r <;> rfl

theorem State.reset_stations_toList :
    State.reset.stations.toList = List.replicate Config.stationCount Station.vacant :=
  Vector.toList_replicate

theorem State.reset_queuedCount : State.reset.queuedCount = 0 := by
  rw [State.queuedCount, State.reset_stations_toList, List.map_replicate, List.sum_replicate]
  rfl

theorem State.reset_backloggedCount : State.reset.backloggedCount = 0 := by
  rw [State.backloggedCount, State.reset_stations_toList, List.countP_replicate]
  rfl

theorem State.reset_freeCount : State.reset.freeCount = 8192 := by
  rw [State.freeCount, State.reset_queuedCount]
  rfl

/-- Settles O4. -/
theorem resetLeavesSpecValues : Obligations.ResetLeavesSpecValues := by
  refine ⟨fun i => ⟨State.reset_station i, rfl, rfl, rfl⟩, rfl, rfl, rfl, State.reset_freeCount,
    State.reset_queuedCount, rfl, rfl, State.reset_backloggedCount, by decide, rfl, State.reset_radio, rfl,
    rfl, rfl, rfl, rfl, fun l => ?_⟩
  cases l with
  | control => rfl
  | radio r => cases r <;> rfl

/-! ### Timers in their last cycle (R128, R149, R54) -/

section
variable {s : State}

theorem State.timersStopped_iff (s : State) : s.timersStopped = true ↔ ¬ Spec.timersRun s := by
  simp only [State.timersStopped, Bool.or_eq_true, s.frozen_iff, Bool.not_eq_true', Spec.timersRun]
  cases s.resetInput <;> simp

theorem State.onExpiry_of_run (h : Spec.timersRun s) (t : State) : s.onExpiry t = .next t :=
  State.onExpiry_running (Bool.eq_false_iff.2 fun stopped => s.timersStopped_iff.1 stopped h) t

theorem State.onExpiry_of_stop (h : ¬ Spec.timersRun s) (t : State) : s.onExpiry t = .next s :=
  State.onExpiry_stopped (s.timersStopped_iff.2 h) t

theorem Station.holdDue_iff (st : Station) :
    st.holdDue = true ↔ st.state = .holding ∧ ∃ n, st.hold = some n ∧ n ≤ 1 := by
  simp [Station.holdDue, Option.any_eq_true, lastCycle_iff]

theorem Station.settleDue_iff (st : Station) : st.settleDue = true ↔ ∃ n, st.settle = some n ∧ n ≤ 1 := by
  simp [Station.settleDue, Option.any_eq_true, lastCycle_iff]

theorem Grant.due_iff (g : Grant) : g.due = true ↔ g.timer ≤ 1 := lastCycle_iff _

theorem EpochTimer.due_iff (e : EpochTimer) : e.due = true ↔ e.running = true ∧ e.remaining ≤ 1 := by
  simp [EpochTimer.due, lastCycle_iff]

theorem State.millisecondDue_iff (s : State) : s.millisecondDue = true ↔ 199999 ≤ s.msPhase := by
  simp [State.millisecondDue, Config.cyclesPerMs]

end

/-- Settles O25: each expiry asks its own due test. -/
theorem timersExpire : Obligations.TimersExpire := by
  intro s i hrun
  have hhold : exec (.holdTimerExpiry i) s =
      .next (if (s.station i).holdDue then s.enterReady i else s) := State.onExpiry_of_run hrun _
  have hsettle : exec (.settleTimerExpiry i) s =
      .next (if (s.station i).settleDue then s.setStation i { s.station i with settle := none } else s) :=
    State.onExpiry_of_run hrun _
  have hms : exec .millisecondClockAdvance s =
      .next (if s.millisecondDue then { s with msClock := s.msClock + 1, msPhase := 0 } else s) :=
    State.onExpiry_of_run hrun _
  simp only [hhold, hsettle, hms, Station.holdDue_iff, Station.settleDue_iff, State.millisecondDue_iff,
    Spec.withStation_eq, Spec.joins_eq]
  refine ⟨fun n hstate hn hle => ?_, fun off => ?_, fun n hn hle => ?_, fun off => ?_, fun hlast => ?_,
    fun hleft => ?_⟩
  · rw [if_pos ⟨hstate, n, hn, hle⟩]
    rfl
  · rw [if_neg]
    rintro ⟨hstate, n, hn, hle⟩
    rcases off with h | h | ⟨m, h, hlt⟩
    · exact h hstate
    · simp [h] at hn
    · rw [h, Option.some.injEq] at hn
      omega
  · rw [if_pos ⟨n, hn, hle⟩]
  · rw [if_neg]
    rintro ⟨n, hn, hle⟩
    rcases off with h | ⟨m, h, hlt⟩
    · simp [h] at hn
    · rw [h, Option.some.injEq] at hn
      omega
  · rw [if_pos hlast, BitVec.ofNat_add, BitVec.ofNat_toNat, BitVec.setWidth_eq]
    rfl
  · rw [if_neg (Nat.not_le.2 hleft)]

/-- The rollover keeps what lies above the cap, no more than 32767 (R17). -/
theorem carried_eq (usage cap : Nat) :
    carried usage cap = (min 32767 (max 0 ((usage : Int) - (cap : Int)))).toNat := by
  unfold carried Config.carryMax
  omega

/-- Settles O8: the rollover writes the four carried values, which the beginning of the epoch keeps. -/
theorem epochExpiryRollsOver : Obligations.EpochExpiryRollsOver := by
  intro r s hrun
  have hexec : exec (.epochTimerExpiry r) s = .next (if (s.radio r).epoch.due then s.endEpoch r else s) :=
    State.onExpiry_of_run hrun _
  simp only [hexec, EpochTimer.due_iff]
  refine ⟨fun hrunning hle => ?_, fun off => ?_⟩
  · rw [if_pos ⟨hrunning, hle⟩]
    simp only [State.endEpoch, State.rollover, State.setRadio_setRadio, State.radio_setRadio_self,
      Spec.withRadio_eq, carried_eq]
    rfl
  · rw [if_neg]
    rintro ⟨hrunning, hle⟩
    rcases off with h | h
    · simp [h] at hrunning
    · omega

end Sys2Proof.Machine
end

section
/-! The link ports (chapter 9), NOTE (chapter 7), and the grant ends that no REPORT makes (chapter 6). -/

namespace Sys2Proof.Machine

/-! ### NOTE (R133 to R135) -/

section
variable {s : State} {r : Radio} {index : BitVec 16} {power : BitVec 2} {rate : BitVec 16} {i : StationIndex}

theorem noteTaken_malformed (h : power = 3) :
    noteTaken r index power rate s = s.refuseMalformed (.radio r) Kind.noteReq := by
  subst h
  rfl

theorem powerPartOf_ne_invalid (h : power ≠ 3) : powerPartOf power ≠ .invalid := by
  revert h
  revert power
  decide

theorem noteTaken_range (hpower : power ≠ 3) (hindex : 512 ≤ index.toNat) :
    noteTaken r index power rate s = s.refuseRadio r Kind.noteReq .noStation := by
  rw [noteTaken, if_neg (powerPartOf_ne_invalid hpower), stationOf_none hindex]

theorem noteTaken_free (hpower : power ≠ 3) (hindex : index.toNat = i.val)
    (hfree : (s.station i).state = .free) :
    noteTaken r index power rate s = s.refuseRadio r Kind.noteReq .noStation := by
  simp [noteTaken, powerPartOf_ne_invalid hpower, stationOf_eq hindex, hfree]

theorem noteTaken_notOwner (hpower : power ≠ 3) (hindex : index.toNat = i.val)
    (hfree : (s.station i).state ≠ .free) (howner : (s.station i).owner ≠ r) :
    noteTaken r index power rate s = s.refuseRadio r Kind.noteReq .notOwner := by
  simp [noteTaken, powerPartOf_ne_invalid hpower, stationOf_eq hindex, hfree, howner]

theorem noteTaken_noted (hpower : power ≠ 3) (hindex : index.toNat = i.val)
    (hfree : (s.station i).state ≠ .free) (howner : (s.station i).owner = r) :
    noteTaken r index power rate s =
      (s.noteStation i (powerPartOf power) rate).answer (.radio r) (.taken Kind.noteReq index) := by
  simp [noteTaken, powerPartOf_ne_invalid hpower, stationOf_eq hindex, hfree, howner]

end

section
variable {s : State} {i : StationIndex}

/-! The rows of R134. -/

theorem State.notePower_doze_queued (h : (s.station i).state = .holding ∨ (s.station i).state = .ready) :
    s.notePower i .doze = (s.exitRing i).setStation i
      { s.station i with state := .dozing, power := .doze, hold := none } := by
  rcases h with h | h <;> simp only [State.notePower, h]

theorem State.notePower_doze_other
    (h : (s.station i).state = .idle ∨ (s.station i).state = .dozing ∨ (s.station i).state = .granted) :
    s.notePower i .doze = s.setStation i { s.station i with power := .doze } := by
  rcases h with h | h | h <;> simp only [State.notePower, h]

theorem State.notePower_awake_dozing (h : (s.station i).state = .dozing) :
    s.notePower i .awake =
      (s.setStation i { s.station i with state := .ready, power := .awake, hold := none }).joinRing
        (s.station i).owner (s.station i).group i := by
  simp [State.notePower, h, State.enterReady]

theorem State.notePower_awake_other (h : (s.station i).state ≠ .dozing) :
    s.notePower i .awake = s.setStation i { s.station i with power := .awake } := by
  cases hs : (s.station i).state with
  | dozing => exact absurd hs h
  | free | idle | holding | ready | granted => simp only [State.notePower, hs]

/-- A READY station leaves its ring whatever else of its record is written. -/
theorem State.exitRing_setStation {st : Station} (state : st.state = (s.station i).state)
    (owner : st.owner = (s.station i).owner) (group : st.group = (s.station i).group) :
    (s.setStation i st).exitRing i = (s.exitRing i).setStation i st := by
  by_cases ready : (s.station i).state = .ready
  · rw [State.exitRing_ready (by simpa [state] using ready), State.exitRing_ready ready,
      State.station_setStation_self, owner, group]
    simp [State.leaveRing, State.setRing, State.setStation_setRadio]
  · rw [State.exitRing_eq_self (by simpa [state] using ready), State.exitRing_eq_self ready]

end

/-- Settles O26: the checks of R133 in order, then the row of R134 that the power part and the state choose. -/
theorem noteChecksThenWrites : Obligations.NoteChecksThenWrites := by
  intro s r index power rate hopen
  have hexec : exec (.note r index power rate) s = .next (noteTaken r index power rate s) :=
    State.onRadio_of_open hopen _ _
  simp only [hexec, Spec.raised_eq, Spec.sendsOn_eq, Spec.withStation_eq, Spec.leaves_eq, Spec.joins_eq,
    ← noteRate_eq_rateTaken]
  refine ⟨fun h => ?_, fun hpower hrange => congrArg _ (noteTaken_range hpower hrange),
    fun i hpower hindex => ⟨fun hfree => congrArg _ (noteTaken_free hpower hindex hfree),
      fun hfree howner => congrArg _ (noteTaken_notOwner hpower hindex hfree howner), fun hfree howner => ?_⟩⟩
  · rw [noteTaken_malformed h]
    rfl
  rw [noteTaken_noted hpower hindex hfree howner]
  refine ⟨?_, ?_, ?_, ?_, ?_⟩
  · rintro rfl
    rfl
  · rintro rfl hstate
    rw [show powerPartOf 1 = .value .doze from rfl, State.noteStation,
      State.notePower_doze_queued (by simpa using hstate), State.exitRing_setStation]
    · simp only [State.setStation_setStation, State.station_setStation_self]
      rfl
    all_goals rfl
  · rintro rfl hstate
    rw [show powerPartOf 1 = .value .doze from rfl, State.noteStation,
      State.notePower_doze_other (by simpa using hstate)]
    simp only [State.setStation_setStation, State.station_setStation_self]
    rfl
  · rintro rfl hstate
    rw [show powerPartOf 2 = .value .awake from rfl, State.noteStation,
      State.notePower_awake_dozing (by simpa using hstate)]
    simp only [State.setStation_setStation, State.station_setStation_self, howner]
    rfl
  · rintro rfl hstate
    rw [show powerPartOf 2 = .value .awake from rfl, State.noteStation,
      State.notePower_awake_other (by simpa using hstate)]
    simp only [State.setStation_setStation, State.station_setStation_self]
    rfl

/-! ### WITHDRAW, timeout and link loss (R120, R121, R164 to R166) -/

/-- Every frame of a grant that ends unsent returns to the queue's head, or is retired under a mark. -/
theorem State.settleFrames_unsent (s : State) (g : Grant) :
    s.settleFrames g.station (unsentFates g) = Spec.unsent s g := by
  unfold Spec.unsent
  rw [unsentFates_eq, Spec.retired_eq, Spec.withStation_eq]
  cases mark : (s.station g.station).dismissMark with
  | true =>
    rw [State.settleFrames_marked _ mark, if_pos rfl]
    congr 1
    induction g.frames with
    | nil => rfl
    | cons f fs ih => simpa [Fate.underMark, Spec.notices] using ih
  | false =>
    have back : returns (g.frames.map Fate.survives) = g.frames := by
      induction g.frames with
      | nil => rfl
      | cons f fs ih => simpa using ih
    have none : retirements (g.frames.map Fate.survives) = [] := by
      induction g.frames with
      | nil => rfl
      | cons f fs ih => simpa using ih
    rw [State.settleFrames_unmarked _ mark, back, none, if_neg (by simp)]
    rfl

theorem Spec.withdrawn_eq (s : State) (r : Radio) (g : Grant) : Spec.withdrawn s r g = s.endWithdrawn r g := by
  simp only [Spec.withdrawn, ← State.settleFrames_unsent, Spec.withStation_eq, Spec.decreased_eq,
    Spec.handedOver_eq, Spec.freed_eq]
  rfl

theorem Spec.timedOut_eq (s : State) (r : Radio) (g : Grant) : Spec.timedOut s r g = s.endTimedOut r g := by
  simp only [Spec.timedOut, ← State.settleFrames_unsent, Spec.withStation_eq, Spec.withRadio_eq,
    Spec.handedOver_eq, Spec.freed_eq, Spec.raised_eq]
  cases r <;> rfl

theorem Spec.linkReset_eq (s : State) (r : Radio) : Spec.linkReset s r = s.radioLinkReset r := by
  simp only [Spec.linkReset, Spec.withdrawn_eq, Spec.withRadio_eq, Spec.raised_eq]
  cases r <;> rfl

theorem Spec.linkStarted_eq (s : State) (r : Radio) : Spec.linkStarted s r = s.bringUp r := Spec.withRadio_eq ..

/-- Settles O48: by whether an outstanding grant carries the tag. -/
theorem withdrawRefundsGrant : Obligations.WithdrawRefundsGrant := by
  intro s r tag hopen
  have hexec : exec (.withdraw r tag) s = .next (withdrawTaken r tag s) := State.onRadio_of_open hopen _ _
  simp only [hexec, Spec.sendsOn_eq, Spec.withdrawn_eq]
  refine ⟨fun h => ?_, fun g h => ?_⟩
  · have stale : (s.radio r).findGrant tag = none := h
    rw [withdrawTaken, stale]
    rfl
  · have found : (s.radio r).findGrant tag = some g := h
    rw [withdrawTaken, found, BitVec.ofNat_toNat]
    rfl

/-- Settles O49: by whether an outstanding grant carries the tag, and whether its timer is in its last
cycle. -/
theorem timeoutEndsGrant : Obligations.TimeoutEndsGrant := by
  intro s r tag hrun
  have hexec : exec (.grantTimeout r tag) s = .next (match (s.radio r).findGrant tag with
      | none => s
      | some g => if g.due then s.endTimedOut r g else s) := State.onExpiry_of_run hrun _
  rw [hexec]
  refine ⟨fun h => ?_, fun g h => ⟨fun hlast => ?_, fun hleft => ?_⟩⟩
  · have stale : (s.radio r).findGrant tag = none := h
    rw [stale]
  · have found : (s.radio r).findGrant tag = some g := h
    rw [found, Spec.timedOut_eq]
    exact congrArg _ (if_pos (g.due_iff.2 hlast))
  · have found : (s.radio r).findGrant tag = some g := h
    rw [found]
    exact congrArg _ (if_neg fun due => Nat.not_le.2 hleft (g.due_iff.1 due))

/-- Settles O35: by whether the link was UP. -/
theorem linkStartBringsUp : Obligations.LinkStartBringsUp := by
  intro s r hinput
  have hexec : exec (.linkStart r) s = .next (linkStartTaken r s) := by
    simp [exec, execLinkStart, State.ignores, hinput]
  simp only [hexec, Spec.sendsOn_eq, Spec.linkStarted_eq, Spec.linkReset_eq, linkStartTaken]
  refine ⟨fun hdown => ?_, fun hup => ?_⟩
  · rw [if_neg (by simp [hdown])]
  · rw [if_pos hup]

theorem RadioUnit.clockAbsent_iff (u : RadioUnit) :
    u.clockAbsent = true ↔ u.linkUp = true ∧ ∃ n, u.watch = some n ∧ 19999 ≤ n := by
  simp [RadioUnit.clockAbsent, Option.any_eq_true, usToCycles, Config.watchLimitUs, Config.cyclesPerUs]

theorem State.emptyPort_eq (s : State) (r : Radio) :
    s.emptyPort r = Spec.withRadio { s with pending := Spec.waiting (.radio r) s.pending } r
      { s.radio r with port := ⟨0, []⟩ } := by
  rw [State.emptyPort, State.discardUntaken, dropUntaken_eq]
  cases r <;> rfl

/-- Settles O36: by whether the link is UP and its watch in the last cycle of 100 µs. -/
theorem linkClockLossAndEdge : Obligations.LinkClockLossAndEdge := by
  intro s r
  have hloss : exec (.linkClockAbsent r) s =
    .next (if (s.radio r).clockAbsent then (s.emptyPort r).radioLinkReset r else s) := rfl
  have hedge : exec (.requestClockEdge r) s =
    .next (if (s.radio r).linkUp then s.setRadio r { s.radio r with watch := some 0 } else s) := rfl
  simp only [hloss, hedge, RadioUnit.clockAbsent_iff, Spec.linkReset_eq, ← State.emptyPort_eq]
  refine ⟨fun n hup hwatch hn => ?_, fun off => ?_, fun hup => ?_, fun hdown => ?_⟩
  · rw [if_pos ⟨hup, n, hwatch, hn⟩]
  · rw [if_neg]
    rintro ⟨hup, n, hn, hle⟩
    rcases off with h | h | ⟨m, h, hlt⟩
    · simp [h] at hup
    · simp [h] at hn
    · rw [h, Option.some.injEq] at hn
      omega
  · rw [if_pos hup, Spec.withRadio_eq]
  · rw [if_neg (by simp [hdown])]

/-! ### Records refused and discarded (R157 to R163, R168, R169) -/

/-- A radio request but LINK START goes through the check of the link. -/
theorem exec_upKind {c : Instr} {r : Radio} {kind : Byte} (h : Spec.upKind c = some (r, kind)) (s : State) :
    ∃ act, exec c s = s.onRadio r kind act := by
  cases c <;> simp only [Spec.upKind, Option.some.injEq, Prod.mk.injEq, reduceCtorEq] at h
  all_goals
    obtain ⟨rfl, rfl⟩ := h
    exact ⟨_, rfl⟩

/-- Settles O37. -/
theorem downLinkRefuses : Obligations.DownLinkRefuses := by
  intro s c r kind hinput hdown hkind
  obtain ⟨act, hexec⟩ := exec_upKind hkind s
  rw [hexec, State.onRadio_down (by simp [State.ignores, hinput]) hdown, Spec.sendsOn_eq]
  rfl

section
variable {s : State} {l : Link}

/-- Records on a link are not ignored where the reset input is high and, on the Control Link, no answer to
DEVICE RESET is due. -/
theorem State.ignores_of_taken (hinput : s.resetInput = true) (hdue : l = .control → s.resetAnswerDue = false) :
    s.ignores l = false := by
  cases l with
  | control => simp [State.ignores, hinput, hdue rfl]
  | radio r => simp [State.ignores, hinput]

theorem State.ignores_of_reset (h : s.resetInput = false ∨ (l = .control ∧ s.resetAnswerDue = true)) :
    s.ignores l = true := by
  rcases h with h | ⟨rfl, h⟩
  · cases l <;> simp [State.ignores, h]
  · simp [State.ignores, h]

/-- A record that is discarded where records on its link are taken sets MALFORMED alone. -/
theorem State.discardRecord_taken (h : s.ignores l = false) : s.discardRecord l = s.raise .malformed := by
  simp [State.discardRecord, State.raiseIf, h]

end

/-- Settles O39. -/
theorem discardedRecordsReported : Obligations.DiscardedRecordsReported := by
  intro s l hinput hdue
  have discarded := State.discardRecord_taken (State.ignores_of_taken hinput hdue)
  exact ⟨congrArg _ discarded, congrArg _ discarded⟩

/-- A request of a link that ignores its records has no effect. -/
theorem exec_request_ignored {c : Instr} {l : Link} {s : State} (hc : requestLink c = some l)
    (h : s.ignores l = true) : exec c s = .next s := by
  cases c <;> cases hc <;> simp only [exec]
  case linkStart r => exact congrArg _ (if_pos h)
  all_goals first
    | exact State.onControl_ignored h _
    | exact State.onRadio_ignored h _ _

/-- Settles O33: each command asks whether records on its link are ignored. -/
theorem requestsIgnoredInReset : Obligations.RequestsIgnoredInReset := by
  intro c l s hreset
  have ignored := State.ignores_of_reset hreset
  have discarded : s.discardRecord l = s := by simp [State.discardRecord, State.raiseIf, ignored]
  refine ⟨?_, ?_⟩
  · rintro (hrequest | ⟨kind, rfl⟩ | rfl | rfl)
    · exact exec_request_ignored hrequest ignored
    · exact congrArg _ (if_pos ignored)
    · exact congrArg _ discarded
    · exact congrArg _ discarded
  · refine (congrArg _ (if_pos ignored)).trans ?_
    rw [State.discardUntaken, dropUntaken_eq]
    rfl

theorem isRequestKind_control_iff (kind : Byte) :
    isRequestKind .control kind = true ↔ 1 ≤ kind.toNat ∧ kind.toNat ≤ 0x19 := by
  simp [isRequestKind]

theorem isRequestKind_radio_iff (r : Radio) (kind : Byte) :
    isRequestKind (.radio r) kind = true ↔ 0x40 ≤ kind.toNat ∧ kind.toNat ≤ 0x44 := by
  simp [isRequestKind]

/-- A malformed record of a request kind that needs an UP link, on a DOWN one. -/
theorem malformedTaken_down_iff (s : State) (r : Radio) (kind : Byte) :
    (isRequestKind (.radio r) kind && !(s.radio r).linkUp && kind ≠ Kind.linkStart) = true ↔
      (s.radio r).linkUp = false ∧ 0x41 ≤ kind.toNat ∧ kind.toNat ≤ 0x44 := by
  have start : kind = Kind.linkStart ↔ kind.toNat = 0x40 := BitVec.toNat_inj.symm
  simp only [Bool.and_eq_true, isRequestKind_radio_iff, Bool.not_eq_true', decide_eq_true_eq, ne_eq, start]
  constructor
  · rintro ⟨⟨range, down⟩, other⟩
    exact ⟨down, by omega, range.2⟩
  · rintro ⟨down, low, high⟩
    exact ⟨⟨⟨by omega, high⟩, down⟩, by omega⟩

/-- Settles O38: by link, then by the checks of R161 in their order. -/
theorem malformedRecordsAnswered : Obligations.MalformedRecordsAnswered := by
  unfold Obligations.MalformedRecordsAnswered
  simp only [Spec.raised_eq, Spec.header_eq, Spec.sendsOn_eq]
  refine ⟨fun s kind hopen => ?_, fun s index es hopen hlong => ?_, fun s r kind hinput => ?_⟩
  · have hexec : exec (.malformedRecord .control kind) s = .next (s.refuseMalformed .control kind) :=
      congrArg _ (if_neg (by simp [State.ignores_control_of_open hopen]))
    rw [hexec, State.refuseMalformed]
    refine ⟨fun hlow hhigh => ?_, fun hother => ?_⟩
    · rw [if_pos ((isRequestKind_control_iff kind).2 ⟨hlow, hhigh⟩)]
    · rw [if_neg]
      rw [isRequestKind_control_iff]
      omega
  · have hexec : exec (.queue index es) s = .next (queueTaken index es s) := State.onControl_of_open hopen _
    rw [hexec, queueTaken, if_pos hlong]
    rfl
  · have hexec : exec (.malformedRecord (.radio r) kind) s = .next (malformedTaken (.radio r) kind s) :=
      congrArg _ (if_neg (by simp [State.ignores, hinput]))
    rw [hexec, malformedTaken]
    refine ⟨fun hdown hlow hhigh => ?_, fun hother => ?_⟩
    · rw [if_pos ((malformedTaken_down_iff s r kind).2 ⟨hdown, hlow, hhigh⟩)]
      rfl
    · rw [if_neg]
      · rfl
      · rw [malformedTaken_down_iff]
        rintro ⟨hdown, hlow, hhigh⟩
        rcases hother with h | h | h
        · simp [hdown] at h
        · omega
        · omega

/-! ### The device reset (R168, R169) -/

theorem dropUntaken_zero_eq (l : Link) (cs : List Instr) : dropUntaken l 0 cs = Spec.waiting l cs :=
  dropUntaken_eq l cs

theorem State.deviceReset_eq (s : State) :
    s.deviceReset = { State.reset with
      resetInput := s.resetInput, freezeInput := s.freezeInput, choices := s.choices,
      pending := Spec.waitingReset s.pending } := by
  rw [State.deviceReset, dropUntaken_zero_eq, dropUntaken_zero_eq, dropUntaken_zero_eq]
  rfl

/-- Settles O31. -/
theorem deviceResetLeavesResetValues : Obligations.DeviceResetLeavesResetValues := by
  intro s hopen
  have hexec : exec .deviceReset s = .next (deviceResetTaken s) := State.onControl_of_open hopen _
  rw [deviceResetTaken, State.deviceReset_eq, hopen.1] at hexec
  exact ⟨_, hexec, rfl, rfl, fun r => by cases r <;> rfl, _, rfl, rfl, rfl⟩

/-- Settles O32. -/
theorem resetInputHoldsThePart : Obligations.ResetInputHoldsThePart := by
  refine ⟨fun s => ⟨_, rfl, ?_, fun l => ?_, rfl, fun l => ?_⟩, fun s => rfl⟩
  · rw [State.deviceReset_eq]
  · cases l <;> rfl
  · cases l with
    | control => rfl
    | radio r => cases r <;> rfl

end Sys2Proof.Machine
end

section
/-! The commands of one radio: what they leave alone of the other radio and of the rest of the part, the one
answer of every request, and the raw flags that stay. -/

namespace Sys2Proof.Machine

/-! ### The other radio and the rest of the part -/

/-- Every radio but one is kept but for its rings, which gain members at their tails alone. -/
def State.OtherKept (r : Radio) (s t : State) : Prop :=
  ∀ q, q ≠ r → t.radio q = { s.radio q with rings := (t.radio q).rings } ∧
    ∀ g, (s.radio q).ring g <+: (t.radio q).ring g

theorem State.OtherKept.of_eq {r : Radio} {s t : State} (h : ∀ q, q ≠ r → t.radio q = s.radio q) :
    s.OtherKept r t := fun q hq => by
  rw [h q hq]
  exact ⟨rfl, fun _ => List.prefix_refl _⟩

theorem State.OtherKept.trans {r : Radio} {s t u : State} (h : s.OtherKept r t) (h' : t.OtherKept r u) :
    s.OtherKept r u := by
  intro q hq
  obtain ⟨eq, grow⟩ := h q hq
  obtain ⟨eq', grow'⟩ := h' q hq
  exact ⟨by rw [eq', eq], fun g => (grow g).trans (grow' g)⟩

/-- What the commands of a radio leave alone: the other radio but for ring tails, the radio's own port, and what
`State.RestKept` names. -/
structure State.RadioWork (r : Radio) (s t : State) : Prop extends s.RestKept t where
  other : s.OtherKept r t
  port : (t.radio r).port = (s.radio r).port

namespace State.RadioWork

variable {r : Radio} {s t u : State}

theorem refl (s : State) : s.RadioWork r s := ⟨.refl s, .of_eq fun _ _ => rfl, rfl⟩

theorem trans (h : s.RadioWork r t) (h' : t.RadioWork r u) : s.RadioWork r u :=
  ⟨h.toRestKept.trans h'.toRestKept, h.other.trans h'.other, h'.port.trans h.port⟩

theorem setStation (s : State) (i : StationIndex) (st : Station) : s.RadioWork r (s.setStation i st) :=
  ⟨.setStation .., .of_eq fun q _ => by simp, by simp⟩

theorem setRadio (s : State) {u : RadioUnit} (port : u.port = (s.radio r).port) :
    s.RadioWork r (s.setRadio r u) :=
  ⟨.setRadio .., .of_eq fun _ hq => State.radio_setRadio_ne s u hq.symm, by simpa using port⟩

theorem raise (s : State) (k : EventKind) : s.RadioWork r (s.raise k) :=
  ⟨.raise .., .of_eq fun q _ => by simp, by simp⟩

theorem setRing (s : State) (g : GroupIndex) (ring : List StationIndex) : s.RadioWork r (s.setRing r g ring) :=
  setRadio s rfl

theorem endWork (h : s.EndWork r t) : s.RadioWork r t where
  toRestKept := h.toRestKept
  other q hq := ⟨h.other q hq, h.grow q⟩
  port := by rw [h.self]

theorem searched (h : s.Searched r t) : s.RadioWork r t where
  toRestKept := h.toRestKept
  other := .of_eq h.other
  port := by rw [h.self]

theorem formed {g : Grant} {drops : List Notice} (h : State.Formed r g drops s t) : s.RadioWork r t where
  toRestKept := h.toRestKept
  other := .of_eq h.other
  port := by rw [h.self]

theorem dropGrant (s : State) (tag : Byte) : s.RadioWork r (s.dropGrant r tag) := setRadio s rfl

theorem countTimeout (s : State) : s.RadioWork r (s.countTimeout r) := setRadio s rfl

theorem takeDown (s : State) : s.RadioWork r (s.takeDown r) := setRadio s rfl

theorem clearMarks (s : State) : s.RadioWork r (s.clearMarks r) := setRadio s rfl

theorem restartWatch (s : State) : s.RadioWork r (s.setRadio r { s.radio r with watch := some 0 }) :=
  setRadio s rfl

theorem endWithdrawn (s : State) (g : Grant) : s.RadioWork r (s.endWithdrawn r g) := by
  obtain ⟨u, work, eq⟩ := s.endWithdrawn_eq r g
  rw [eq]
  exact (endWork work).trans (dropGrant ..)

theorem endReported (s : State) (g : Grant) (actual : Nat) (rate : BitVec 16) (outcomes : List FrameOutcome) :
    s.RadioWork r (s.endReported r g actual rate outcomes) := by
  obtain ⟨u, work, eq⟩ := s.endReported_eq r g actual rate outcomes
  rw [eq]
  exact (endWork work).trans (dropGrant ..)

theorem endTimedOut (s : State) (g : Grant) : s.RadioWork r (s.endTimedOut r g) := by
  obtain ⟨u, work, -, eq⟩ := s.endTimedOut_eq r g
  rw [eq]
  exact (((endWork work).trans (dropGrant ..)).trans (countTimeout _)).trans (raise ..)

theorem endGrants (s : State) : s.RadioWork r (s.endGrants r) :=
  (State.endGrants_keeps (P := s.RadioWork r) (fun t g _ _ h => h.trans (endWithdrawn t g)) (refl s)).1

theorem radioLinkReset (s : State) : s.RadioWork r (s.radioLinkReset r) :=
  ((endGrants s).trans (takeDown _)).trans (raise ..)

theorem bringUp (s : State) : s.RadioWork r (s.bringUp r) := setRadio s rfl

theorem endEpoch (s : State) : s.RadioWork r (s.endEpoch r) :=
  RadioWork.trans (t := s.rollover r) (setRadio s rfl) (setRadio _ rfl)

/-! A station of the radio enters and leaves rings of that radio alone. -/

theorem exitRing {i : StationIndex} (owner : (s.station i).owner = r) : s.RadioWork r (s.exitRing i) := by
  subst owner
  by_cases ready : (s.station i).state = .ready
  · rw [State.exitRing_ready ready]
    exact setRing ..
  · rw [State.exitRing_eq_self ready]
    exact refl s

theorem enterReady {i : StationIndex} (owner : (s.station i).owner = r) : s.RadioWork r (s.enterReady i) := by
  subst owner
  exact (setStation ..).trans (setRing ..)

theorem notePower {i : StationIndex} (owner : (s.station i).owner = r) (p : Power) :
    s.RadioWork r (s.notePower i p) := by
  unfold State.notePower
  split
  · exact (exitRing owner).trans (setStation ..)
  · exact (exitRing owner).trans (setStation ..)
  · exact (setStation ..).trans (enterReady (by simpa using owner))
  · exact setStation ..

theorem noteStation {i : StationIndex} (owner : (s.station i).owner = r) (power : PowerPart)
    (rate : BitVec 16) : s.RadioWork r (s.noteStation i power rate) := by
  unfold State.noteStation
  split
  · exact (setStation ..).trans (notePower (by simpa using owner) _)
  · exact setStation ..

end State.RadioWork

/-! ### One answer for every radio link request (R158, R160) -/

/-- From `s` to `t` a command of the radio has its effect and one answer more stands on the radio's link. -/
def State.RadioAnswers (r : Radio) (s t : State) : Prop := ∃ u a, s.RadioWork r u ∧ t = u.answer (.radio r) a

section
variable {r : Radio} {s : State}

theorem State.RadioWork.answers {u : State} (h : s.RadioWork r u) (a : Answer) :
    s.RadioAnswers r (u.answer (.radio r) a) := ⟨u, a, h, rfl⟩

theorem State.radioAnswers_refuseRadio (kind : Byte) (code : Code) :
    s.RadioAnswers r (s.refuseRadio r kind code) := (State.RadioWork.refl s).answers _

theorem State.radioAnswers_refuseMalformed (kind : Byte) :
    s.RadioAnswers r (s.refuseMalformed (.radio r) kind) :=
  ⟨s.raise .malformed, _, .raise .., State.raise_answer ..⟩

theorem State.RadioWork.answerPass {u : State} (h : s.RadioWork r u) (reason : PassReason) :
    s.RadioAnswers r (u.answerPass r reason) :=
  State.RadioWork.answers (h.trans (.setRadio u (u := { u.radio r with
    counters := (u.radio r).counters.countPass reason }) rfl)) _

theorem linkStartTaken_radioAnswers : s.RadioAnswers r (linkStartTaken r s) := by
  unfold linkStartTaken
  split
  · exact ((State.RadioWork.radioLinkReset s).trans (.bringUp _)).answers _
  · exact (State.RadioWork.bringUp s).answers _

theorem offerTaken_radioAnswers (airtime : BitVec 16) : s.RadioAnswers r (offerTaken r airtime s) := by
  generalize offerTaken r airtime s = t, offerTaken_offered r airtime s = offered
  cases offered with
  | frozen | windowFull => exact (State.RadioWork.refl s).answerPass _
  | passed w walk hnone search =>
    exact ((State.RadioWork.searched search.searched_start).trans (.clearMarks _)).answerPass _
  | granted mid v g room search hnone grants hsome =>
    obtain ⟨base, g', drops, searched, formed, -⟩ := grants.formed
    exact ((State.RadioWork.searched (search.searched_start.trans searched)).trans
      ((State.RadioWork.formed formed).trans (.clearMarks _))).answers _

theorem reportTaken_radioAnswers (tag : Byte) (airtime rate : BitVec 16) (fields : List (BitVec 2)) :
    s.RadioAnswers r (reportTaken r tag airtime rate fields s) := by
  unfold reportTaken
  split
  · exact State.radioAnswers_refuseRadio ..
  · split
    · exact State.radioAnswers_refuseRadio ..
    · split
      · exact State.radioAnswers_refuseMalformed ..
      · exact (State.RadioWork.endReported ..).answers _

theorem withdrawTaken_radioAnswers (tag : Byte) : s.RadioAnswers r (withdrawTaken r tag s) := by
  unfold withdrawTaken
  split
  · exact State.radioAnswers_refuseRadio ..
  · exact (State.RadioWork.endWithdrawn ..).answers _

theorem noteTaken_radioAnswers (index : BitVec 16) (power : BitVec 2) (rate : BitVec 16) :
    s.RadioAnswers r (noteTaken r index power rate s) := by
  unfold noteTaken
  split
  · exact State.radioAnswers_refuseMalformed ..
  · split
    · exact State.radioAnswers_refuseRadio ..
    · split
      · exact State.radioAnswers_refuseRadio ..
      · split
        · exact State.radioAnswers_refuseRadio ..
        · next owner => exact (State.RadioWork.noteStation (not_not.1 owner) _ _).answers _

theorem State.onRadio_radioAnswers {kind : Byte} {act : State} (h : s.ignores (.radio r) = false)
    (taken : s.RadioAnswers r act) : ∃ t, s.onRadio r kind act = .next t ∧ s.RadioAnswers r t := by
  cases up : (s.radio r).linkUp with
  | true => exact ⟨_, State.onRadio_taken h up .., taken⟩
  | false => exact ⟨_, State.onRadio_down h up .., State.radioAnswers_refuseRadio ..⟩

/-- A radio link request that is not ignored is answered once. -/
theorem exec_radio_request {c : Instr} (hc : requestLink c = some (.radio r))
    (h : s.ignores (.radio r) = false) : ∃ t, exec c s = .next t ∧ s.RadioAnswers r t := by
  cases c <;> cases hc
  case linkStart =>
    exact ⟨linkStartTaken r s, by simp [exec, execLinkStart, h], linkStartTaken_radioAnswers⟩
  case offer airtime => exact State.onRadio_radioAnswers h (offerTaken_radioAnswers airtime)
  case report => exact State.onRadio_radioAnswers h (reportTaken_radioAnswers ..)
  case withdraw => exact State.onRadio_radioAnswers h (withdrawTaken_radioAnswers ..)
  case note => exact State.onRadio_radioAnswers h (noteTaken_radioAnswers ..)

end

/-! ### The ports after a request -/

/-- One port has one answer more and every other port is kept. -/
structure State.OneAnswer (l : Link) (a : Answer) (s t : State) : Prop where
  self : t.port l = ⟨(s.port l).claimed, (s.port l).answers ++ [a]⟩
  other : ∀ k, k ≠ l → t.port k = s.port k

/-- An answer after work that keeps the ports. -/
theorem State.oneAnswer_of_ports {s u : State} {l : Link} (a : Answer) (h : ∀ k, u.port k = s.port k) :
    State.OneAnswer l a s (u.answer l a) where
  self := by rw [State.answer_port_self, h]
  other k hk := by rw [State.answer_port_ne u a hk.symm, h]

theorem State.RadioWork.ports {r : Radio} {s t : State} (h : s.RadioWork r t) (k : Link) :
    t.port k = s.port k := by
  cases k with
  | control => exact h.control
  | radio q =>
    by_cases hq : q = r
    · subst hq; exact h.port
    · rw [State.port, (h.other q hq).1]
      rfl

theorem State.ControlWrite.ports {s t : State} (h : s.ControlWrite t) (k : Link) : t.port k = s.port k := by
  cases h with
  | radio r b =>
    exact (State.RadioWork.setRadio (r := r) s (u := { s.radio r with settings := radioSettingsOf b }) rfl).ports k
  | nothing | scanCursor | collected | group | saved | restored | device | forced | masked =>
    cases k with
    | control => rfl
    | radio q => cases q <;> rfl

theorem State.RequestTaken.oneAnswer {c : Instr} {s t : State} (h : s.RequestTaken c t) :
    ∃ a, State.OneAnswer .control a s t := by
  cases h with
  | answers h =>
    obtain ⟨u, a, work, rfl⟩ := h
    exact ⟨a, State.oneAnswer_of_ports a work.port⟩
  | writes h =>
    obtain ⟨u, a, write, rfl⟩ := h
    exact ⟨a, State.oneAnswer_of_ports a write.ports⟩
  | cleared kinds a =>
    refine ⟨a, State.oneAnswer_of_ports a fun k => ?_⟩
    cases k with
    | control => rfl
    | radio q => cases q <;> rfl

/-- Settles O50: a Control Link request by what it writes (`exec_control_request`), a radio link request by what
its radio's work leaves alone (`exec_radio_request`). -/
theorem everyRequestAnsweredOnce : Obligations.EveryRequestAnsweredOnce := by
  intro c l s hc hreset open'
  cases l with
  | control =>
    obtain ⟨t, hexec, taken⟩ := exec_control_request (s := s) hc hreset
    obtain ⟨a, one⟩ := taken.oneAnswer
    exact ⟨t, a, hexec.trans (State.onControl_taken open' t), one.self, one.other⟩
  | radio r =>
    obtain ⟨t, hexec, u, a, work, rfl⟩ := exec_radio_request hc open'
    have one := State.oneAnswer_of_ports (l := .radio r) a work.ports
    exact ⟨_, a, hexec, one.self, one.other⟩

/-! ### The other radio -/

theorem State.otherKept_answer (s : State) (r : Radio) (a : Answer) : s.OtherKept r (s.answer (.radio r) a) :=
  .of_eq fun _ hq => State.radio_setRadio_ne s _ hq.symm

theorem State.RadioAnswers.otherKept {r : Radio} {s t : State} (h : s.RadioAnswers r t) : s.OtherKept r t := by
  obtain ⟨u, a, work, rfl⟩ := h
  exact work.other.trans (State.otherKept_answer u r a)

theorem State.otherKept_emptyPort (s : State) (r : Radio) : s.OtherKept r (s.emptyPort r) :=
  .of_eq fun q hq => by
    rw [State.emptyPort, State.setPort, State.radio_setRadio_ne _ _ hq.symm, State.discardUntaken_radio]

theorem exec_otherKept {r : Radio} {c : Instr} {s t : State} (hc : Spec.ofRadio r c = true)
    (e : exec c s = .next t) : s.OtherKept r t := by
  have same : s.OtherKept r s := .of_eq fun _ _ => rfl
  by_cases request : requestLink c = some (.radio r)
  · cases ignored : s.ignores (.radio r) with
    | true =>
      rw [exec_request_ignored request ignored] at e
      cases e
      exact same
    | false =>
      obtain ⟨u, hexec, answers⟩ := exec_radio_request request ignored
      rw [hexec] at e
      cases e
      exact answers.otherKept
  cases c <;> simp only [Spec.ofRadio, decide_eq_true_eq, Bool.false_eq_true] at hc <;> subst hc
  case grantTimeout tag =>
    refine State.onExpiry_keeps e same fun _ => ?_
    split
    · exact same
    · split
      · exact (State.RadioWork.endTimedOut ..).other
      · exact same
  case epochTimerExpiry =>
    refine State.onExpiry_keeps e same fun _ => ?_
    split
    · exact (State.RadioWork.endEpoch s).other
    · exact same
  case linkClockAbsent =>
    cases e
    split
    · exact (s.otherKept_emptyPort _).trans (State.RadioWork.radioLinkReset _).other
    · exact same
  case requestClockEdge =>
    cases e
    split
    · exact (State.RadioWork.restartWatch s).other
    · exact same
  all_goals exact absurd rfl request

theorem otherRadio_ne (r : Radio) : otherRadio r ≠ r := by cases r <;> decide

/-- Settles O51: the commands of a radio reach the other one by the hand-over of a steered station alone. -/
theorem otherRadioKept : Obligations.OtherRadioKept := fun r _ _ _ hc e =>
  exec_otherKept hc e _ (otherRadio_ne r)

/-! ### Raw flags (R170) -/

theorem State.flagsStay_refl (s : State) : s.FlagsStay s := .of_raw_eq rfl

theorem State.AnswersOn.flags {l : Link} {s t : State} (h : s.AnswersOn l t) : s.FlagsStay t := by
  obtain ⟨u, a, work, rfl⟩ := h
  exact work.flags.trans (.of_raw_eq (by simp))

theorem State.RadioAnswers.flags {r : Radio} {s t : State} (h : s.RadioAnswers r t) : s.FlagsStay t := by
  obtain ⟨u, a, work, rfl⟩ := h
  exact work.flags.trans (.of_raw_eq (by simp))

theorem State.ControlWrite.flags {s t : State} (h : s.ControlWrite t) : s.FlagsStay t := by
  cases h with
  | forced kinds => exact .of_raw_or kinds rfl
  | radio => exact (State.RestKept.setRadio ..).flags
  | nothing | scanCursor | collected | group | saved | restored | device | masked => exact .of_raw_eq rfl

theorem State.RequestTaken.flags {c : Instr} {s t : State} (h : s.RequestTaken c t)
    (hclear : ∀ kinds, c ≠ .eventClear kinds) : s.FlagsStay t := by
  cases h with
  | answers h => exact h.flags
  | writes h =>
    obtain ⟨u, a, write, rfl⟩ := h
    exact write.flags.trans (.of_raw_eq (by simp))
  | cleared kinds a h => exact absurd h (hclear kinds)

theorem exec_request_flags {c : Instr} {l : Link} {s t : State} (hc : requestLink c = some l)
    (hclear : ∀ kinds, c ≠ .eventClear kinds) (hreset : c ≠ .deviceReset) (e : exec c s = .next t) :
    s.FlagsStay t := by
  cases ignored : s.ignores l with
  | true =>
    rw [exec_request_ignored hc ignored] at e
    cases e
    exact s.flagsStay_refl
  | false =>
    cases l with
    | control => exact exec_control_keeps hc hreset e s.flagsStay_refl fun _ _ taken => taken.flags hclear
    | radio r =>
      obtain ⟨u, hexec, answers⟩ := exec_radio_request hc ignored
      rw [hexec] at e
      cases e
      exact answers.flags

theorem execRequestRecordBegins_flags {l : Link} {s t : State} (e : execRequestRecordBegins l s = .next t) :
    s.FlagsStay t := by
  cases e
  split
  · exact .of_raw_eq rfl
  · split
    · exact .of_raw_eq (by simp)
    · exact State.FlagsStay.trans (t := s.discardUntaken l (s.port l).untaken) (.of_raw_eq rfl)
        (State.RestKept.raiseIf ..).flags

theorem execAnswerSent_flags {l : Link} {s t : State} (e : execAnswerSent l s = .next t) : s.FlagsStay t := by
  unfold execAnswerSent at e
  split at e
  · cases e
    exact s.flagsStay_refl
  · cases e
    split <;> exact .of_raw_eq (by simp)

/-- Settles O28. -/
theorem rawFlagsAreSticky : Obligations.RawFlagsAreSticky := by
  intro c s t e hclear hreset hlow
  change s.FlagsStay t
  have same := s.flagsStay_refl
  by_cases request : ∃ l, requestLink c = some l
  · obtain ⟨l, hl⟩ := request
    exact exec_request_flags hl hclear hreset e
  cases c with
  | malformedRecord l kind => exact ignored_keeps e same fun _ => (malformedTaken_answers ..).flags
  | recordWithoutHeader l | recordWhileNotReady l =>
    cases e
    exact (State.RestKept.raiseIf ..).flags
  | answerSent l => exact execAnswerSent_flags e
  | holdTimerExpiry i =>
    refine State.onExpiry_keeps e same fun _ => ?_
    split
    · exact (State.StationWork.enterReady ..).flags
    · exact same
  | settleTimerExpiry i =>
    refine State.onExpiry_keeps e same fun _ => ?_
    split
    · exact (State.RestKept.setStation ..).flags
    · exact same
  | grantTimeout r tag =>
    refine State.onExpiry_keeps e same fun _ => ?_
    split
    · exact same
    · split
      · exact (State.RadioWork.endTimedOut ..).flags
      · exact same
  | epochTimerExpiry r =>
    refine State.onExpiry_keeps e same fun _ => ?_
    split
    · exact (State.RadioWork.endEpoch s).flags
    · exact same
  | millisecondClockAdvance =>
    refine State.onExpiry_keeps e same fun _ => ?_
    split
    · exact .of_raw_eq rfl
    · exact same
  | linkClockAbsent r =>
    cases e
    split
    · exact State.FlagsStay.trans (t := s.emptyPort r) (.of_raw_eq (by simp [State.emptyPort, State.discardUntaken]))
        (State.RadioWork.radioLinkReset _).flags
    · exact same
  | resetInputLow => exact absurd rfl hlow
  | resetInputHigh | freezeInputAsserted | freezeInputReleased =>
    cases e
    exact .of_raw_eq rfl
  | requestRecordBegins l => exact execRequestRecordBegins_flags e
  | requestClockEdge r =>
    cases e
    split
    · exact (State.RestKept.setRadio ..).flags
    · exact same
  | _ => exact absurd ⟨_, rfl⟩ request

end Sys2Proof.Machine
end

section
/-! The request buffers (R158, R159), and a cycle of the part's clock with no command waiting (log 2). -/

namespace Sys2Proof.Machine

/-! ### Requests that stay when a record is discarded (R159, log 21) -/

/-- Of commands that have begun, those that stay where the first `held` buffered records of a link do. -/
def heldBegun (l : Link) (held : Nat) (begun : List Instr) : List Instr :=
  (begun.zipIdx.filter fun x =>
    bufferedOn x.1 ≠ some l ∨ (begun.take x.2).countP (bufferedOn · = some l) < held).map (·.1)

theorem waitingBut_eq (l : Link) (held : Nat) (cs : List Instr) :
    Spec.waitingBut l held cs = heldBegun l held (cs.takeWhile (· ≠ .requestRecordBegins l)) ++
      cs.dropWhile (· ≠ .requestRecordBegins l) := rfl

/-- The positions of a list's rest are one less, and so is the count of records ahead of each where the first
command is a record of the link. -/
theorem heldBegun_cons (l : Link) (held : Nat) (c : Instr) (cs : List Instr) :
    heldBegun l held (c :: cs) =
      if bufferedOn c = some l then
        match held with
        | 0 => heldBegun l 0 cs
        | n + 1 => c :: heldBegun l n cs
      else c :: heldBegun l held cs := by
  unfold heldBegun
  rw [List.zipIdx_cons', List.filter_cons, List.filter_map]
  by_cases hc : bufferedOn c = some l
  · cases held with
    | zero => simp [hc, Function.comp_def]
    | succ n => simp [hc, Function.comp_def]
  · simp [hc, Function.comp_def]

theorem dropUntaken_eq_waitingBut (l : Link) (held : Nat) (cs : List Instr) :
    dropUntaken l held cs = Spec.waitingBut l held cs := by
  induction cs generalizing held with
  | nil => rfl
  | cons c cs ih =>
    rw [waitingBut_eq]
    unfold dropUntaken
    by_cases begins : c = .requestRecordBegins l
    · simp [begins, heldBegun]
    · rw [if_neg begins, List.takeWhile_cons_of_pos (by simpa using begins),
        List.dropWhile_cons_of_pos (by simpa using begins), heldBegun_cons]
      split
      · cases held with
        | zero => exact (ih 0).trans (waitingBut_eq ..)
        | succ n => exact congrArg (c :: ·) ((ih n).trans (waitingBut_eq ..))
      · exact congrArg (c :: ·) ((ih held).trans (waitingBut_eq ..))

theorem State.ready_iff {s : State} {l : Link} (h : s.ignores l = false) :
    s.ready l = true ↔ (s.port l).claimed < 4 := by
  rw [State.ready, h]
  exact decide_eq_true_iff

theorem execRequestRecordBegins_claims {s : State} {l : Link} (h : s.ignores l = false)
    (free : (s.port l).claimed < 4) : exec (.requestRecordBegins l) s =
      .next (s.setPort l ⟨(s.port l).claimed + 1, (s.port l).answers⟩) := by
  simp only [exec, execRequestRecordBegins, h, (State.ready_iff h).2 free, if_true, Bool.false_eq_true, if_false]

theorem execRequestRecordBegins_full {s : State} {l : Link} (h : s.ignores l = false)
    (full : 4 ≤ (s.port l).claimed) : exec (.requestRecordBegins l) s =
      .next ((s.discardUntaken l (s.port l).untaken).raise .malformed) := by
  have notReady : s.ready l = false := by
    rw [Bool.eq_false_iff, ne_eq, State.ready_iff h]
    omega
  have discarded : (s.discardUntaken l (s.port l).untaken).discardRecord l =
      (s.discardUntaken l (s.port l).untaken).raise .malformed :=
    State.discardRecord_taken (by simpa using h)
  simp only [exec, execRequestRecordBegins, h, notReady, Bool.false_eq_true, if_false, discarded]

/-- Settles O40: the record claims a buffer, or is discarded as the ready line is low (`dropUntaken_eq_waitingBut`);
an answer that is sent leaves its port. -/
theorem buffersClaimedAndFreed : Obligations.BuffersClaimedAndFreed := by
  intro s l
  refine ⟨fun hinput hdue => ?_, fun a rest hanswers => ?_, fun hnone => ?_⟩
  · have open' := State.ignores_of_taken hinput hdue
    refine ⟨State.ready_iff open', execRequestRecordBegins_claims open', fun full => ?_⟩
    rw [execRequestRecordBegins_full open' full, State.discardUntaken, dropUntaken_eq_waitingBut]
    rfl
  · simp only [exec, execAnswerSent, hanswers]
    cases l with
    | control => rfl
    | radio r => cases r <;> rfl
  · simp only [exec, execAnswerSent, hnone]

/-! ### One cycle of the clock (R54, R72, R110, R128, R149, R165, R177) -/

theorem takeAll_eq_taken (cs : List Instr) (s : State) : takeAll cs s = Spec.taken cs s := by
  induction cs generalizing s with
  | nil => rfl
  | cons c cs ih =>
    obtain ⟨t, ht⟩ := exec_next c s
    simp only [takeAll, Spec.taken, ht, ih]

theorem mapStations_eq_map (f : Station → Station) (v : Vector Station Config.stationCount) :
    mapStations f v = v.map f := by
  exact Vector.ext fun i hi => by simp [mapStations]

theorem countDown_eq_less : countDown = Spec.less := by
  funext n
  simp [countDown, Spec.less, lastCycle_iff]

theorem RadioUnit.tick_eq_timed (u : RadioUnit) : u.tick = Spec.timed u := by
  rw [RadioUnit.tick, countDown_eq_less]
  rfl

theorem countUp_eq {limit last : Nat} (h : limit = last + 1) (n : Nat) :
    countUp limit n = if last ≤ n then n else n + 1 := by
  subst h
  simp [countUp]

theorem countUp_watch : countUp (usToCycles Config.watchLimitUs) = fun n => if 19999 ≤ n then n else n + 1 :=
  funext fun n => countUp_eq rfl n

theorem State.tickWatches_eq_watched (s : State) : s.tickWatches = Spec.watched s := by
  rw [State.tickWatches, RadioUnit.tickWatch, RadioUnit.tickWatch, countUp_watch]
  rfl

theorem State.tickTimers_tickWatches_eq_clocked (s : State) : s.tickTimers.tickWatches = Spec.clocked s := by
  rw [State.tickWatches_eq_watched, State.tickTimers, mapStations_eq_map, RadioUnit.tick_eq_timed,
    RadioUnit.tick_eq_timed, Spec.clocked, ← countDown_eq_less,
    countUp_eq (limit := Config.cyclesPerMs) (last := 199999) rfl]
  rfl

/-- One expiry for each element that a test takes is the filtered list. -/
theorem flatMap_ite_singleton {α β : Type} (p : α → Bool) (f : α → β) (l : List α) :
    (l.flatMap fun x => if p x then [f x] else []) = (l.filter p).map f := by
  induction l with
  | nil => rfl
  | cons x l ih =>
    rw [List.flatMap_cons, ih, List.filter_cons]
    split <;> rfl

theorem allStations_dueOfStation_perm (s : State) : (allStations.flatMap s.dueOfStation).Perm
    ((allStations.filter fun i => (s.station i).holdDue).map .holdTimerExpiry ++
      (allStations.filter fun i => (s.station i).settleDue).map .settleTimerExpiry) := by
  rw [← flatMap_ite_singleton, ← flatMap_ite_singleton]
  exact (List.flatMap_append_perm ..).symm

theorem Station.holdDue_eq (st : Station) :
    st.holdDue = decide (st.state = .holding ∧ (st.hold = some 0 ∨ st.hold = some 1)) := by
  rw [Bool.eq_iff_iff, Station.holdDue_iff, decide_eq_true_iff]
  simp only [Nat.le_one_iff_eq_zero_or_eq_one, and_or_left, exists_or, exists_eq_right]

theorem Station.settleDue_eq (st : Station) :
    st.settleDue = decide (st.settle = some 0 ∨ st.settle = some 1) := by
  rw [Bool.eq_iff_iff, Station.settleDue_iff, decide_eq_true_iff]
  simp only [Nat.le_one_iff_eq_zero_or_eq_one, and_or_left, exists_or, exists_eq_right]

theorem RadioUnit.clockAbsent_eq (u : RadioUnit) :
    u.clockAbsent = decide (u.linkUp = true ∧ 19999 ≤ u.watch.getD 0) := by
  rw [Bool.eq_iff_iff, RadioUnit.clockAbsent_iff, decide_eq_true_iff]
  cases u.watch <;> simp

theorem State.dueWatches_eq_absent (s : State) : s.dueWatches = Spec.absent s := by
  simp only [State.dueWatches, Spec.absent, RadioUnit.clockAbsent_eq]

/-- The expiries of the two radios, sorted by timer. -/
theorem dueOfRadio_perm (s : State) : (s.dueOfRadio .a ++ s.dueOfRadio .b).Perm
    ([Radio.a, Radio.b].flatMap (fun r =>
      ((s.radio r).grants.filter fun g => g.timer ≤ 1).map fun g => .grantTimeout r g.tag) ++
    ([Radio.a, Radio.b].filter fun r =>
      (s.radio r).epoch.running = true ∧ (s.radio r).epoch.remaining ≤ 1).map .epochTimerExpiry) := by
  have due : (fun g : Grant => g.due) = fun g => decide (g.timer ≤ 1) := by
    funext g
    rw [Bool.eq_iff_iff, g.due_iff, decide_eq_true_iff]
  have epoch : ∀ r, (s.radio r).epoch.due =
      decide ((s.radio r).epoch.running = true ∧ (s.radio r).epoch.remaining ≤ 1) := fun r => by
    rw [Bool.eq_iff_iff, EpochTimer.due_iff, decide_eq_true_iff]
  have shape : s.dueOfRadio .a ++ s.dueOfRadio .b = [Radio.a, Radio.b].flatMap s.dueOfRadio := by simp
  rw [shape, ← flatMap_ite_singleton]
  simp only [← epoch, ← due]
  exact (List.flatMap_append_perm ..).symm

theorem State.dueTimers_perm (s : State) : s.dueTimers.Perm (Spec.expiring s) := by
  have stations := allStations_dueOfStation_perm s
  simp only [Station.holdDue_eq, Station.settleDue_eq] at stations
  have milli : (if s.millisecondDue then [Instr.millisecondClockAdvance] else []) =
      if 199999 ≤ s.msPhase then [.millisecondClockAdvance] else [] := by
    simp only [State.millisecondDue_iff]
  rw [State.dueTimers, milli, List.append_assoc (allStations.flatMap _), Spec.expiring,
    List.append_assoc (_ ++ _) (List.flatMap _ _)]
  exact (stations.append (dueOfRadio_perm s)).append_right _

/-- The step of an idle part: the expiries due are taken in some order from the state its timers count to. -/
theorem step_idle {s : State} (h : s.pending = []) : ∃ (order : List Instr) (choices : Nat) (t : State),
    order.Perm s.due ∧ step s = .next t ∧
      Spec.taken order { s.counted with choices := choices } = .next t := by
  obtain ⟨t, ht⟩ := takeAll_next (arrange s.choices s.due)
    { s.counted with choices := s.choices + (s.due.length - 1) }
  exact ⟨_, _, t, arrange_perm .., (step_nil h).trans ht, (takeAll_eq_taken ..).symm.trans ht⟩

theorem State.counted_of_run {s : State} (h : Spec.timersRun s) : s.counted = Spec.clocked s := by
  obtain ⟨input, freeze⟩ := h
  have thaw : s.frozen = false := by rwa [Bool.eq_false_iff, ne_eq, s.frozen_iff]
  simp only [State.counted, input, thaw, Bool.not_true, Bool.false_eq_true, if_false,
    State.tickTimers_tickWatches_eq_clocked]

theorem State.due_of_run {s : State} (h : Spec.timersRun s) : s.due = s.dueTimers ++ s.dueWatches := by
  obtain ⟨input, freeze⟩ := h
  have thaw : s.frozen = false := by rwa [Bool.eq_false_iff, ne_eq, s.frozen_iff]
  simp only [State.due, input, thaw, Bool.not_true, Bool.false_eq_true, if_false]

/-- Settles O2: the timers count to `Spec.clocked` (`State.counted_of_run`), and the expiries due are those of
`Spec.expiring` and `Spec.absent` in another order (`State.dueTimers_perm`). -/
theorem idleStepCountsTimers : Obligations.IdleStepCountsTimers := by
  intro s hidle hrun
  obtain ⟨order, choices, t, perm, hstep, taken⟩ := step_idle hidle
  rw [State.due_of_run hrun, State.dueWatches_eq_absent] at perm
  rw [State.counted_of_run hrun] at taken
  exact ⟨order, choices, t, perm.trans (s.dueTimers_perm.append_right _), hstep, taken⟩

/-- Settles O3. -/
theorem timersHeldInFreezeAndReset : Obligations.TimersHeldInFreezeAndReset := by
  refine ⟨fun s hidle hlow => (step_nil hidle).trans (State.tick_held hlow), fun s hidle hinput hfreeze => ?_,
    fun c s hstop hheld => ?_⟩
  · have frozen := s.frozen_iff.2 hfreeze
    have counted : s.counted = Spec.watched s := by
      simp [State.counted, hinput, frozen, State.tickWatches_eq_watched]
    have due : s.due = Spec.absent s := by
      simp [State.due, hinput, frozen, State.dueWatches_eq_absent]
    have idle := step_idle hidle
    rwa [counted, due] at idle
  · cases c with
    | holdTimerExpiry i => rw [exec, execHoldTimerExpiry, State.onExpiry_of_stop hheld]
    | settleTimerExpiry i => rw [exec, execSettleTimerExpiry, State.onExpiry_of_stop hheld]
    | grantTimeout r tag => rw [exec, execGrantTimeout, State.onExpiry_of_stop hheld]
    | epochTimerExpiry r => rw [exec, execEpochTimerExpiry, State.onExpiry_of_stop hheld]
    | millisecondClockAdvance => rw [exec, execMillisecondClockAdvance, State.onExpiry_of_stop hheld]
    | _ => exact absurd hstop Bool.false_ne_true

end Sys2Proof.Machine
end

section
/-! OFFER (chapter 5): the passes without a visit, one visit step by step, frame selection, and the OFFER whose
first visit grants. -/

namespace Sys2Proof.Machine

/-! ### What the statements say of a frame (R2, R4, R5, R56) -/

section
variable (s : State) (r : Radio) (i : StationIndex)

theorem single_eq (f : Slot) : Spec.single s r i f = s.slotEstimate r i f := rfl

theorem drop_eq (f : Slot) : Spec.drop s r i f = s.dropReason r i f := by
  simp only [Spec.drop, State.dropReason, slotExpired, Bool.and_eq_true, decide_eq_true_eq, ne_eq,
    decide_not, Bool.not_eq_true', decide_eq_false_iff_not]
  rfl

theorem dropped_eq (pre : List Notice) (kept : List Slot) :
    Spec.dropped s i pre kept = s.dropFrames i pre kept := by
  rw [Spec.dropped, Spec.retired_eq, Spec.withStation_eq]
  rfl

theorem passed_eq (reason : PassReason) : Spec.passed s r reason = s.answerPass r reason := by
  unfold Spec.passed
  rw [Spec.sendsOn_eq, Spec.withRadio_eq]
  cases reason <;> rfl

end

/-! ### Frame selection (R96) -/

/-- Settles O7, by induction on the slots examined: a dropped slot is passed, a kept one is taken while the
count and the budget allow it, and the first that is not ends the run. -/
theorem selectionTakesLongestFit : Obligations.SelectionTakesLongestFit := by
  intro reason time fits n sum fs hn
  induction fs generalizing n sum with
  | nil => exact ⟨[], by simp [selectFrames, hn]⟩
  | cons f fs ih =>
    cases hreason : reason f with
    | some why =>
      obtain ⟨seen, split, taken, drops, total, count, fit, stop⟩ := ih n sum hn
      refine ⟨f :: seen, ?_⟩
      simp only [selectFrames, hreason]
      refine ⟨congrArg (f :: ·) split, ?_, ?_, total, count, fit, stop⟩
      · simpa [hreason] using taken
      · simpa [hreason] using drops
    | none =>
      by_cases full : n = Config.framesPerGrant
      · refine ⟨[], ?_⟩
        simp [selectFrames, hreason, full, Config.framesPerGrant]
      · by_cases fitsOne : fits (sum + time f) = true
        · have room : n + 1 ≤ 64 := by
            have notFull : n ≠ 64 := full
            omega
          obtain ⟨seen, split, taken, drops, total, count, fit, stop⟩ := ih (n + 1) (sum + time f) room
          refine ⟨f :: seen, ?_⟩
          simp only [selectFrames, hreason, if_neg full, fitsOne, if_true, List.length_cons]
          refine ⟨congrArg (f :: ·) split, ?_, ?_, ?_, by omega, fun _ => ?_, fun k hk => ?_⟩
          · simpa [hreason] using taken
          · simpa [hreason] using drops
          · rw [total, List.map_cons, List.sum_cons, Nat.add_assoc]
          · generalize selectFrames reason time fits (n + 1) (sum + time f) fs = sel at total fit ⊢
            by_cases none : sel.taken = []
            · rw [none] at total
              rw [total]
              simpa using fitsOne
            · exact fit none
          · obtain ⟨kept, why⟩ := stop k hk
            exact ⟨kept, why.imp_left fun h => by omega⟩
        · refine ⟨[], ?_⟩
          have exceeds : fits (sum + time f) = false := by simpa using fitsOne
          simp [selectFrames, hreason, exceeds, hn]

/-! ### A visit (R91 to R94) -/

/-- Head drops are the run of the queue's head that the tests drop. -/
theorem splitDrops_eq {reason : Slot → Option Reason} {pre : List Notice} {kept : List Slot}
    (hpre : ∀ n ∈ pre, reason n.slot = some n.reason) (hkept : ∀ f ∈ kept.head?, reason f = none) :
    splitDrops reason (pre.map (·.slot) ++ kept) = (pre, kept) := by
  induction pre with
  | nil =>
    cases kept with
    | nil => rfl
    | cons f fs => simp [splitDrops, hkept f rfl]
  | cons n pre ih =>
    have head := hpre n List.mem_cons_self
    have rest := ih fun m hm => hpre m (List.mem_cons_of_mem n hm)
    simp only [List.map_cons, List.cons_append, splitDrops, head, rest]

section
variable {s : State} {r : Radio} {i : StationIndex}

theorem State.headDrops_eq {pre : List Notice} {kept : List Slot}
    (queue : (s.station i).queue = pre.map (·.slot) ++ kept)
    (hpre : ∀ n ∈ pre, s.dropReason r i n.slot = some n.reason)
    (hkept : ∀ f ∈ kept.head?, s.dropReason r i f = none) : s.headDrops r i = s.dropFrames i pre kept := by
  rw [State.headDrops, queue, splitDrops_eq hpre hkept]

theorem State.dropFrames_station_self (drops : List Notice) (kept : List Slot) :
    (s.dropFrames i drops kept).station i = { s.station i with
      queue := kept, dropped := (s.station i).dropped + BitVec.ofNat 32 drops.length } := by
  simp [State.dropFrames]

/-- Drops leave the times and estimates of a station's frames as they are. -/
theorem State.dropFrames_slotEstimate (drops : List Notice) (kept : List Slot) (f : Slot) :
    (s.dropFrames i drops kept).slotEstimate r i f = s.slotEstimate r i f := by
  simp only [State.slotEstimate, State.stationRate, State.dropFrames_station_self, State.dropFrames_radio]

theorem State.dropFrames_group (drops : List Notice) (kept : List Slot) (g : GroupIndex) :
    (s.dropFrames i drops kept).group g = s.group g := by
  simp [State.group, (State.StationWork.dropFrames s i drops kept).profile]

end

/-! The four ends of a visit after its head drops. -/

section
variable {w : Walk} {r : Radio} {pass : PassKind} {offer : Nat} {g : GroupIndex} {i : StationIndex} {f : Slot}
  {rest : List Slot}

theorem Walk.visit_empty (queue : ((w.state.headDrops r i).station i).queue = []) :
    w.visit r pass offer g i =
      { w with visits := w.visits - 1, state := (w.state.headDrops r i).visitEmpty r g i } := by
  simp only [Walk.visit, queue]

theorem Walk.visit_queued (queue : ((w.state.headDrops r i).station i).queue = f :: rest) :
    w.visit r pass offer g i =
      if ((w.state.headDrops r i).station i).deficit < 0 then
        { w with visits := w.visits - 1, state := (w.state.headDrops r i).visitCredit r g i }
      else if w.state.budget r g pass offer < (w.state.headDrops r i).slotEstimate r i f then
        { w with
          visits := w.visits - 1, passedOver := true, state := (w.state.headDrops r i).visitPassOver r g i }
      else
        { w with
          visits := w.visits - 1
          state := ((w.state.headDrops r i).formGrant r i pass (w.state.budget r g pass offer)
            ((w.state.headDrops r i).selection r i (w.state.budget r g pass offer) f rest)).1
          grant := some ((w.state.headDrops r i).formGrant r i pass (w.state.budget r g pass offer)
            ((w.state.headDrops r i).selection r i (w.state.budget r g pass offer) f rest)).2 } := by
  simp only [Walk.visit, queue]

theorem Walk.visit_credit (queue : ((w.state.headDrops r i).station i).queue = f :: rest)
    (deficit : ((w.state.headDrops r i).station i).deficit < 0) : w.visit r pass offer g i =
      { w with visits := w.visits - 1, state := (w.state.headDrops r i).visitCredit r g i } :=
  (Walk.visit_queued queue).trans (if_pos deficit)

theorem Walk.visit_passOver (queue : ((w.state.headDrops r i).station i).queue = f :: rest)
    (deficit : 0 ≤ ((w.state.headDrops r i).station i).deficit)
    (exceeds : w.state.budget r g pass offer < (w.state.headDrops r i).slotEstimate r i f) :
    w.visit r pass offer g i =
      { w with
        visits := w.visits - 1, passedOver := true, state := (w.state.headDrops r i).visitPassOver r g i } :=
  (Walk.visit_queued queue).trans ((if_neg (Int.not_lt.2 deficit)).trans (if_pos exceeds))

theorem Walk.visit_grant (queue : ((w.state.headDrops r i).station i).queue = f :: rest)
    (deficit : 0 ≤ ((w.state.headDrops r i).station i).deficit)
    (fits : (w.state.headDrops r i).slotEstimate r i f ≤ w.state.budget r g pass offer) :
    w.visit r pass offer g i =
      { w with
        visits := w.visits - 1
        state := ((w.state.headDrops r i).formGrant r i pass (w.state.budget r g pass offer)
          ((w.state.headDrops r i).selection r i (w.state.budget r g pass offer) f rest)).1
        grant := some ((w.state.headDrops r i).formGrant r i pass (w.state.budget r g pass offer)
          ((w.state.headDrops r i).selection r i (w.state.budget r g pass offer) f rest)).2 } :=
  (Walk.visit_queued queue).trans ((if_neg (Int.not_lt.2 deficit)).trans (if_neg (Nat.not_lt.2 fits)))

end

theorem State.rotateRing_eq {s : State} {r : Radio} {g : GroupIndex} {i : StationIndex}
    {ring : List StationIndex} (head : (s.radio r).ring g = i :: ring) :
    s.rotateRing r g = s.setRing r g (ring ++ [i]) := by
  rw [State.rotateRing, head]
  rfl

theorem State.leaveRing_eq {s : State} {r : Radio} {g : GroupIndex} {i : StationIndex}
    {ring : List StationIndex} (head : (s.radio r).ring g = i :: ring) :
    s.leaveRing r g i = s.setRing r g ring := by
  rw [State.leaveRing, head, List.erase_cons_head]

/-- Settles O43: after the head drops, by the queue that is left, the deficit and the budget. -/
theorem visitWithoutGrant : Obligations.VisitWithoutGrant := by
  intro w r pass offer g i ring pre kept head queue hpre hkept
  simp only [drop_eq] at hpre hkept
  simp only [dropped_eq, Spec.withStation_eq, Spec.withRing_eq, Spec.withRadio_eq, single_eq]
  have drops := State.headDrops_eq queue hpre hkept
  have head' : ((w.state.dropFrames i pre kept).radio r).ring g = i :: ring := by
    rw [State.dropFrames_radio]
    exact head
  have left : ((w.state.headDrops r i).station i).queue = kept := by
    rw [drops, State.dropFrames_station_self]
  refine ⟨fun hempty => ?_, fun f fs hcons => ⟨fun hdeficit => ?_, fun hdeficit hover => ?_⟩⟩
  · rw [Walk.visit_empty (left.trans hempty), drops, State.visitEmpty, State.leaveRing_eq head']
  · rw [Walk.visit_credit (left.trans hcons) (by rwa [drops]), drops, State.visitCredit, State.rotateRing_eq head',
      State.groupOfStation, State.dropFrames_group]
    rfl
  · have exceeds : w.state.budget r g pass offer < (w.state.headDrops r i).slotEstimate r i f := by
      rwa [drops, State.dropFrames_slotEstimate]
    rw [Walk.visit_passOver (left.trans hcons) (by rwa [drops]) exceeds, drops, State.visitPassOver,
      State.rotateRing_eq head']
    simp [State.setRing]

/-! ### Passes without a visit (R86, R88, R90, R100) -/

section
variable {w : Walk} {r : Radio} {pass : PassKind} {offer : Nat}

theorem Walk.tryGroup_of_not_tried {g : GroupIndex} (h : w.state.tried r pass g = false) :
    w.tryGroup r pass offer g = w := by
  simp [Walk.tryGroup, h]

theorem Walk.overGroups_of_none_tried (h : ∀ g, w.state.tried r pass g = false) :
    w.overGroups r pass offer = w := by
  unfold Walk.overGroups
  induction List.finRange 4 with
  | nil => rfl
  | cons g gs ih => rw [List.foldl_cons, Walk.tryGroup_of_not_tried (h g), ih]

end

theorem State.not_tried_cap_iff {s : State} {r : Radio} {g : GroupIndex} :
    s.tried r .cap g = false ↔ (s.radio r).rings[g] = [] ∨ s.capOf r g ≤ (s.radio r).usage[g] := by
  simp only [State.tried, State.withinCap, Bool.and_eq_false_iff, Bool.not_eq_false', List.isEmpty_iff,
    decide_eq_false_iff_not, Nat.not_lt]
  rfl

theorem State.not_tried_borrow_iff {s : State} {r : Radio} {g : GroupIndex} :
    s.tried r .borrow g = false ↔ (s.radio r).rings[g] = [] ∨ s.profile[g].borrow = false := by
  simp only [State.tried, Bool.and_eq_false_iff, Bool.not_eq_false', List.isEmpty_iff]
  rfl

/-- Marks that are cleared already are left as they are. -/
theorem State.clearMarks_of_nil {s : State} {r : Radio} (h : (s.radio r).marks = []) : s.clearMarks r = s := by
  rw [State.clearMarks, ← h]
  exact s.setRadio_radio r

theorem State.clearMarks_marks (s : State) (r : Radio) : ((s.clearMarks r).radio r).marks = [] := by
  simp [State.clearMarks]

/-- A walk that tries no group in either pass makes no visit. -/
theorem State.walk_of_none_tried {s : State} {r : Radio} {offer : Nat} (hmarks : (s.radio r).marks = [])
    (h : ∀ pass g, s.tried r pass g = false) : s.walk r offer = ⟨s, Config.visitBudget, false, none⟩ := by
  unfold State.walk
  rw [Walk.overGroups_of_none_tried (h .cap)]
  simp only [State.clearMarks_of_nil hmarks]
  rw [Walk.overGroups_of_none_tried (h .borrow), ite_self]

theorem exec_offer {s : State} {r : Radio} (h : Spec.linkOpen s r) (airtime : BitVec 16) :
    exec (.offer r airtime) s = .next (offerTaken r airtime s) := State.onRadio_of_open h _ _

theorem offerTaken_frozen {s : State} {r : Radio} {airtime : BitVec 16} (h : Spec.freeze s) :
    offerTaken r airtime s = s.answerPass r .frozen := if_pos (s.frozen_iff.2 h)

theorem offerTaken_windowFull {s : State} {r : Radio} {airtime : BitVec 16} (h : ¬ Spec.freeze s)
    (full : 2 ≤ (s.radio r).grants.length) : offerTaken r airtime s = s.answerPass r .windowFull := by
  rw [offerTaken, if_neg (by rwa [s.frozen_iff])]
  exact if_pos full

theorem offerTaken_walk {s : State} {r : Radio} {airtime : BitVec 16} (h : ¬ Spec.freeze s)
    (room : (s.radio r).grants.length < 2) :
    offerTaken r airtime s = ((s.clearMarks r).walk r (clampOffer airtime)).finish r := by
  rw [offerTaken, if_neg (by rwa [s.frozen_iff])]
  exact if_neg (Nat.not_le.2 room)

theorem all_rings_empty_iff (u : RadioUnit) :
    ((List.finRange 4).all fun g => (u.ring g).isEmpty) = true ↔ ∀ g : GroupIndex, u.rings[g] = [] := by
  rw [List.all_eq_true]
  exact ⟨fun h g => List.isEmpty_iff.1 (h g (List.mem_finRange g)), fun h g _ => List.isEmpty_iff.2 (h g)⟩

/-- Settles O41: the first condition of R86 that holds, and without one a walk that tries no group. -/
theorem offerPassesAtOnce : Obligations.OfferPassesAtOnce := by
  intro s r airtime hopen hmarks
  simp only [exec_offer hopen, passed_eq]
  refine ⟨fun h => congrArg _ (offerTaken_frozen h), fun h full => congrArg _ (offerTaken_windowFull h full),
    fun h room hempty => ?_, fun h room hsome hcapped => ?_⟩
  · have walk := State.walk_of_none_tried (offer := clampOffer airtime) hmarks fun pass g => by
      cases pass
      exacts [State.not_tried_cap_iff.2 (.inl (hempty g)), State.not_tried_borrow_iff.2 (.inl (hempty g))]
    rw [offerTaken_walk h room, State.clearMarks_of_nil hmarks, walk]
    simp only [Walk.finish, State.clearMarks_of_nil hmarks, Walk.reason, Config.visitBudget,
      (all_rings_empty_iff _).2 hempty]
    rfl
  · have walk := State.walk_of_none_tried (offer := clampOffer airtime) hmarks fun pass g => by
      by_cases hg : (s.radio r).rings[g] = []
      · cases pass
        exacts [State.not_tried_cap_iff.2 (.inl hg), State.not_tried_borrow_iff.2 (.inl hg)]
      · obtain ⟨capped, noBorrow⟩ := hcapped g hg
        cases pass
        exacts [State.not_tried_cap_iff.2 (.inr capped), State.not_tried_borrow_iff.2 (.inr noBorrow)]
    have busy : ¬ ((List.finRange 4).all fun g => ((s.radio r).ring g).isEmpty) = true := by
      rw [all_rings_empty_iff]
      exact fun hempty => hsome.elim fun g hg => hg (hempty g)
    rw [offerTaken_walk h room, State.clearMarks_of_nil hmarks, walk]
    simp only [Walk.finish, State.clearMarks_of_nil hmarks, Walk.reason, Config.visitBudget, if_neg busy]
    rfl

end Sys2Proof.Machine
end

section
/-! The grants of OFFER (R96 to R99): the first visit that grants, and what every granted OFFER leaves. -/

namespace Sys2Proof.Machine

/-! ### The first group of a pass that is tried (R88, R90) -/

section
variable {w v : Walk} {r : Radio} {pass : PassKind} {offer : Nat} {g : GroupIndex}

/-- A pass that serves a grant in the first group it tries. -/
theorem Walk.overGroups_of_first (before : ∀ h, h < g → w.state.tried r pass h = false)
    (serves : w.tryGroup r pass offer g = v) (hsome : v.grant.isSome = true) : w.overGroups r pass offer = v := by
  have fold : ∀ gs : List GroupIndex, gs.Pairwise (· < ·) → g ∈ gs →
      gs.foldl (fun w g => w.tryGroup r pass offer g) w = v := by
    intro gs
    induction gs with
    | nil => exact fun _ hg => absurd hg List.not_mem_nil
    | cons h gs ih =>
      intro sorted hg
      obtain ⟨first, sorted⟩ := List.pairwise_cons.1 sorted
      rw [List.foldl_cons]
      rcases List.mem_cons.1 hg with rfl | hg
      · rw [serves, Walk.foldl_of_grant gs hsome]
      · rw [Walk.tryGroup_of_not_tried (before h (first g hg))]
        exact ih sorted hg
  exact fold _ (List.pairwise_lt_finRange 4) (List.mem_finRange g)

end

@[simp] theorem State.setRing_ring (s : State) (r : Radio) (g : GroupIndex) :
    s.setRing r g ((s.radio r).ring g) = s := by
  have same : (s.radio r).rings.set g ((s.radio r).ring g) = (s.radio r).rings := by
    simp [RadioUnit.ring]
  rw [State.setRing, same]
  exact s.setRadio_radio r

theorem skipMarked_nil (ring : List StationIndex) : skipMarked [] ring = ring := by
  cases ring <;> simp [skipMarked]

/-- A turn with no station marked begins with a visit of the ring's head (R89). -/
theorem Walk.turn_of_unmarked {w : Walk} {r : Radio} {pass : PassKind} {offer : Nat} {g : GroupIndex}
    {i : StationIndex} {ring : List StationIndex} (marks : (w.state.radio r).marks = [])
    (head : (w.state.radio r).ring g = i :: ring) (n : Nat) :
    Walk.turn r pass offer g (n + 1) w =
      if (w.visit r pass offer g i).grant.isSome then w.visit r pass offer g i
      else Walk.turn r pass offer g n (w.visit r pass offer g i) := by
  have same : w.state.setRing r g (i :: ring) = w.state := by rw [← head, State.setRing_ring]
  have skip : skipMarked [] ((w.state.radio r).ring g) = i :: ring := by rw [skipMarked_nil, head]
  simp only [Walk.turn, marks, skip, List.not_mem_nil, if_false, same]

/-- A visit whose head frame is kept drops nothing. -/
theorem State.headDrops_of_kept {s : State} {r : Radio} {i : StationIndex} {f : Slot} {rest : List Slot}
    (queue : (s.station i).queue = f :: rest) (kept : s.dropReason r i f = none) : s.headDrops r i = s := by
  have drops : s.headDrops r i = s.dropFrames i [] (f :: rest) :=
    State.headDrops_eq queue (fun n hn => absurd hn List.not_mem_nil) fun k hk => by
      obtain rfl := Option.some.inj hk
      exact kept
  have same : ({ s.station i with
      queue := f :: rest
      dropped := (s.station i).dropped + BitVec.ofNat 32 ([] : List Notice).length } : Station) =
      s.station i := by
    rw [← queue]
    simp
  rw [drops, State.dropFrames, same, State.setStation_station]
  rfl

/-- The pass in which a walk makes its first visit, and the group of that visit (R88, R90). -/
def State.visitsFirst (s : State) (r : Radio) (g : GroupIndex) : PassKind → Prop
  | .cap => s.tried r .cap g = true ∧ ∀ h, h < g → s.tried r .cap h = false
  | .borrow => s.tried r .borrow g = true ∧ (∀ h, s.tried r .cap h = false) ∧
      ∀ h, h < g → s.tried r .borrow h = false

/-- The walk whose first visit grants. -/
theorem State.walk_of_first_grant {s : State} {r : Radio} {g : GroupIndex} {pass : PassKind} {offer : Nat}
    {i : StationIndex} {ring : List StationIndex} {f : Slot} {rest : List Slot}
    (marks : (s.radio r).marks = []) (first : s.visitsFirst r g pass)
    (head : (s.radio r).ring g = i :: ring) (queue : (s.station i).queue = f :: rest)
    (kept : s.dropReason r i f = none) (deficit : 0 ≤ (s.station i).deficit)
    (fits : s.slotEstimate r i f ≤ s.budget r g pass offer) :
    s.walk r offer =
      { state := (s.formGrant r i pass (s.budget r g pass offer)
          (s.selection r i (s.budget r g pass offer) f rest)).1
        visits := Config.visitBudget - 1, passedOver := false
        grant := some (s.formGrant r i pass (s.budget r g pass offer)
          (s.selection r i (s.budget r g pass offer) f rest)).2 } := by
  have drops := State.headDrops_of_kept queue kept
  have visit := Walk.visit_grant (w := ⟨s, Config.visitBudget, false, none⟩) (r := r) (pass := pass)
    (offer := offer) (g := g) (i := i) (f := f) (rest := rest) (by rwa [drops]) (by rwa [drops])
    (by rwa [drops])
  rw [drops] at visit
  have serves : ∀ tried : s.tried r pass g = true,
      Walk.tryGroup ⟨s, Config.visitBudget, false, none⟩ r pass offer g =
        Walk.visit ⟨s, Config.visitBudget, false, none⟩ r pass offer g i := by
    intro tried
    rw [Walk.tryGroup, if_pos (by simpa using tried)]
    change Walk.turn r pass offer g (31 + 1) _ = _
    rw [Walk.turn_of_unmarked (w := ⟨s, Config.visitBudget, false, none⟩) marks head, visit]
    rfl
  unfold State.walk
  cases pass with
  | cap =>
    obtain ⟨tried, before⟩ := first
    rw [Walk.overGroups_of_first before (serves tried) (by rw [visit]; rfl), visit]
    rfl
  | borrow =>
    obtain ⟨tried, noCap, before⟩ := first
    rw [Walk.overGroups_of_none_tried noCap]
    simp only [State.clearMarks_of_nil marks]
    rw [Walk.overGroups_of_first before (serves tried) (by rw [visit]; rfl), visit]
    rfl

/-! ### The grant's writes, in the order of the statement -/

theorem State.raiseIf_setRadio (s : State) (r : Radio) (u : RadioUnit) (c : Prop) [Decidable c] (k : EventKind) :
    (s.setRadio r u).raiseIf c k = (s.raiseIf c k).setRadio r u := by
  unfold State.raiseIf
  split
  · cases r <;> rfl
  · rfl

theorem State.retireAll_setRadio (s : State) (r : Radio) (u : RadioUnit) (ns : List Notice) :
    (s.setRadio r u).retireAll ns = (s.retireAll ns).setRadio r u := by
  rw [State.retireAll_eq, State.retireAll_eq, ← State.raiseIf_setRadio]
  cases r <;> rfl

/-- An increase reads and writes neither the rings nor the marks of the radio. -/
theorem State.chargeCounter_setRadio (s : State) (r : Radio) (rings : Vector (List StationIndex) 4)
    (marks : List StationIndex) (g : GroupIndex) (pass : PassKind) (n : Nat) :
    (s.setRadio r { s.radio r with rings := rings, marks := marks }).chargeCounter r g pass n =
      (s.chargeCounter r g pass n).setRadio r
        { (s.chargeCounter r g pass n).radio r with rings := rings, marks := marks } := by
  cases pass with
  | borrow => simp [State.chargeCounter, State.setBorrowed, State.borrowed]
  | cap =>
    have cap : (s.setRadio r { s.radio r with rings := rings, marks := marks }).capOf r g = s.capOf r g := by
      simp [State.capOf, RadioUnit.epochLength]
    have usage : (s.setRadio r { s.radio r with rings := rings, marks := marks }).usage r g = s.usage r g := by
      simp [State.usage]
    simp only [State.chargeCounter, cap, usage, State.raiseIf]
    split
    · simp only [State.setUsage, State.radio_setRadio_self, State.setRadio_setRadio, State.raise_radio]
      cases r <;> rfl
    · simp [State.setUsage]

/-- A grant of the station at the head of the ring of its group, as the one write of its radio that it makes
after the station's record, the drops in passing and the charge (R98). -/
theorem State.formGrant_eq {s : State} {r : Radio} {i : StationIndex} {pass : PassKind} {budget : Nat}
    {sel : Selection} {ring : List StationIndex} {g : Grant} (hg : g = s.newGrant r i pass budget sel)
    (head : (s.radio r).ring (s.station i).group = i :: ring) {lent charged : State}
    (hlent : lent = (s.setStation i { s.station i with
      state := .granted, grantTag := some g.tag, deficit := (s.station i).deficit - g.estimate
      queue := sel.kept, dropped := (s.station i).dropped + BitVec.ofNat 32 sel.drops.length }).retireAll sel.drops)
    (hcharged : charged = lent.chargeCounter r g.group pass g.estimate) :
    (s.formGrant r i pass budget sel).1 = charged.setRadio r
      { charged.radio r with
        rings := (charged.radio r).rings.set g.group ring
        grants := (s.radio r).grants ++ [g], nextTag := g.tag + 1
        counters := { (s.radio r).counters with grantsFormed := (s.radio r).counters.grantsFormed + 1 } } := by
  have lentTo : (s.dropFrames i sel.drops sel.kept).lendTo r g =
      lent.setRadio r { lent.radio r with rings := (lent.radio r).rings.set g.group ring
                                          marks := (lent.radio r).marks } := by
    have group : g.group = (s.station i).group := by rw [hg]; rfl
    have station : g.station = i := by rw [hg]; rfl
    have head' : ((s.dropFrames i sel.drops sel.kept).radio r).ring g.group = i :: ring := by
      rw [State.dropFrames_radio, group, head]
    rw [State.lendTo, station, State.leaveRing_eq head', State.dropFrames_station_self, hlent]
    simp only [State.dropFrames, State.setRing, ← State.setStation_setRadio, State.retireAll_radio,
      State.setStation_radio]
    rw [← State.retireAll_setStation]
    simp
  have work := State.EndWork.chargeCounter (r := r) lent g.group pass g.estimate
  have radio : lent.radio r = s.radio r := by simp [hlent]
  have kept : charged.radio r = { s.radio r with
      rings := (charged.radio r).rings, usage := (charged.radio r).usage
      borrowed := (charged.radio r).borrowed } := by
    rw [hcharged, work.self, radio]
  have rings : (charged.radio r).rings = (lent.radio r).rings := by
    rw [hcharged]
    cases pass <;> simp [State.chargeCounter, State.setUsage, State.setBorrowed]
  have grants : (charged.radio r).grants = (s.radio r).grants := by rw [kept]
  have counters : (charged.radio r).counters = (s.radio r).counters := by rw [kept]
  have marks : (charged.radio r).marks = (lent.radio r).marks := by rw [kept, radio]
  simp only [State.formGrant, ← hg, lentTo, State.chargeCounter_setRadio, ← hcharged, State.recordGrant,
    State.radio_setRadio_self, State.setRadio_setRadio, grants, counters, rings, marks]

/-! ### The state with its marks cleared -/

section
variable (s : State) (r : Radio) (i : StationIndex)

@[simp] theorem State.clearMarks_station (j : StationIndex) : (s.clearMarks r).station j = s.station j := by
  simp [State.clearMarks]

@[simp] theorem State.clearMarks_ring (g : GroupIndex) :
    ((s.clearMarks r).radio r).ring g = (s.radio r).ring g := by
  simp [State.clearMarks, RadioUnit.ring]

theorem State.clearMarks_tried (pass : PassKind) (g : GroupIndex) :
    (s.clearMarks r).tried r pass g = s.tried r pass g := by
  cases pass <;> cases r <;> rfl

theorem State.clearMarks_dropReason : (s.clearMarks r).dropReason r i = s.dropReason r i := by
  cases r <;> rfl

theorem State.clearMarks_slotEstimate : (s.clearMarks r).slotEstimate r i = s.slotEstimate r i := by
  cases r <;> rfl

theorem State.clearMarks_budget (g : GroupIndex) (pass : PassKind) (offer : Nat) :
    (s.clearMarks r).budget r g pass offer = s.budget r g pass offer := by
  cases pass <;> cases r <;> rfl

theorem State.clearMarks_selection (budget : Nat) (f : Slot) (rest : List Slot) :
    (s.clearMarks r).selection r i budget f rest = s.selection r i budget f rest := by
  cases r <;> rfl

theorem State.clearMarks_newGrant (pass : PassKind) (budget : Nat) (sel : Selection) :
    (s.clearMarks r).newGrant r i pass budget sel = s.newGrant r i pass budget sel := by
  cases r <;> rfl

end

/-- The grant of a part whose marks are not yet cleared, with the marks cleared at both ends. -/
theorem State.clearMarks_formGrant {s : State} {r : Radio} {i : StationIndex} {pass : PassKind} {budget : Nat}
    {sel : Selection} {ring : List StationIndex} {g : Grant} (hg : g = s.newGrant r i pass budget sel)
    (head : (s.radio r).ring (s.station i).group = i :: ring) {lent charged : State}
    (hlent : lent = (s.setStation i { s.station i with
      state := .granted, grantTag := some g.tag, deficit := (s.station i).deficit - g.estimate
      queue := sel.kept, dropped := (s.station i).dropped + BitVec.ofNat 32 sel.drops.length }).retireAll sel.drops)
    (hcharged : charged = lent.chargeCounter r g.group pass g.estimate) :
    ((s.clearMarks r).formGrant r i pass budget sel).1.clearMarks r = charged.setRadio r
      { charged.radio r with
        rings := (charged.radio r).rings.set g.group ring, marks := []
        grants := (s.radio r).grants ++ [g], nextTag := g.tag + 1
        counters := { (s.radio r).counters with grantsFormed := (s.radio r).counters.grantsFormed + 1 } } := by
  have radio : lent.radio r = s.radio r := by simp [hlent]
  have hlent' : lent.setRadio r { lent.radio r with rings := (lent.radio r).rings, marks := [] } =
      ((s.clearMarks r).setStation i { (s.clearMarks r).station i with
        state := .granted, grantTag := some g.tag
        deficit := ((s.clearMarks r).station i).deficit - g.estimate, queue := sel.kept
        dropped := ((s.clearMarks r).station i).dropped + BitVec.ofNat 32 sel.drops.length }).retireAll
          sel.drops := by
    rw [radio, hlent, ← State.retireAll_setRadio, State.setStation_setRadio, State.clearMarks_station]
    rfl
  have rings : (charged.radio r).rings = (lent.radio r).rings := by
    rw [hcharged]
    cases pass <;> simp [State.chargeCounter, State.setUsage, State.setBorrowed]
  have formed := State.formGrant_eq (s := s.clearMarks r) (ring := ring)
    (hg.trans (State.clearMarks_newGrant ..).symm) (by simpa using head) hlent' rfl
  rw [formed, State.chargeCounter_setRadio, ← hcharged]
  simp [State.clearMarks, rings]

/-- Settles O42: the walk's first visit (`State.walk_of_first_grant`) and the writes of the grant it forms
(`State.clearMarks_formGrant`). -/
theorem offerFormsGrant : Obligations.OfferFormsGrant := by
  intro s r airtime pass g i ring f rest hopen hfreeze room hfirst head group queue deficit kept st u most
    budget hfits sel tag charge grant lent charged
  have hbudget : s.budget r g pass (clampOffer airtime) = budget := by
    cases pass
    · exact (min_assoc ..).symm
    · rfl
  have drops : s.dropReason r i = Spec.drop s r i := funext fun k => (drop_eq s r i k).symm
  have hsel : s.selection r i budget f rest = { sel with taken := f :: sel.taken } := by
    rw [State.selection, drops]
    rfl
  have first : (s.clearMarks r).visitsFirst r g pass := by
    have busy : (s.radio r).rings[g] ≠ [] := by
      rw [head]
      exact List.cons_ne_nil i ring
    cases pass with
    | cap =>
      obtain ⟨below, before⟩ := hfirst
      refine ⟨Bool.of_not_eq_false fun h => ?_, fun h hh => ?_⟩
      · rw [State.clearMarks_tried, State.not_tried_cap_iff] at h
        exact h.elim busy (Nat.not_le.2 below)
      · rw [State.clearMarks_tried, State.not_tried_cap_iff]
        exact before h hh
    | borrow =>
      obtain ⟨borrows, noCap, before⟩ := hfirst
      refine ⟨Bool.of_not_eq_false fun h => ?_, fun h => ?_, fun h hh => ?_⟩
      · rw [State.clearMarks_tried, State.not_tried_borrow_iff] at h
        exact h.elim busy (Bool.eq_false_iff.1 · borrows)
      · rw [State.clearMarks_tried, State.not_tried_cap_iff]
        exact noCap h
      · rw [State.clearMarks_tried, State.not_tried_borrow_iff]
        exact before h hh
  have walk := State.walk_of_first_grant (s := s.clearMarks r) (offer := clampOffer airtime) (f := f)
    (rest := rest) (s.clearMarks_marks r) first ((State.clearMarks_ring ..).trans head) (by simpa using queue)
    (by rwa [State.clearMarks_dropReason, drops]) (by simpa using deficit)
    (by rwa [State.clearMarks_slotEstimate, State.clearMarks_budget, hbudget])
  rw [State.clearMarks_budget, hbudget, State.clearMarks_selection, hsel] at walk
  have hgrant : (s.clearMarks r).newGrant r i pass budget { sel with taken := f :: sel.taken } = grant := by
    rw [State.clearMarks_newGrant, State.newGrant, group]
    rfl
  have formed := State.clearMarks_formGrant (s := s) (r := r) (i := i) (pass := pass) (budget := budget)
    (sel := { sel with taken := f :: sel.taken }) (ring := ring) (g := grant) (lent := lent)
    (charged := charged) (hgrant.symm.trans (State.clearMarks_newGrant ..)) (by rw [group]; exact head)
    (Spec.retired_eq ..) (Spec.increased_eq ..)
  rw [exec_offer hopen, offerTaken_walk hfreeze room, walk, Spec.sendsOn_eq, Spec.withRadio_eq]
  simp only [Walk.finish, formed]
  rw [State.formGrant, hgrant]

end Sys2Proof.Machine
end

section
/-! What every OFFER leaves alone, and what every granted one leaves (R96 to R99, R106). -/

namespace Sys2Proof.Machine

/-! ### The tests of a frame during a search -/

namespace State.Searched

variable {r : Radio} {s t : State} {i : StationIndex}

theorem settings (h : s.Searched r t) : (t.radio r).settings = (s.radio r).settings := by rw [h.self]

theorem rate (h : s.Searched r t) : (t.station i).rate = (s.station i).rate := by rw [h.station]

theorem group (h : s.Searched r t) : (t.station i).group = (s.station i).group := by rw [h.station]

theorem stationRate (h : s.Searched r t) : t.stationRate r i = s.stationRate r i := by
  rw [State.stationRate, State.stationRate, h.settings, h.rate]

theorem slotTime (h : s.Searched r t) : t.slotTime r i = s.slotTime r i := by
  funext f
  rw [State.slotTime, State.slotTime, h.settings, h.stationRate]

theorem slotEstimate (h : s.Searched r t) : t.slotEstimate r i = s.slotEstimate r i := by
  funext f
  rw [State.slotEstimate, State.slotEstimate, h.settings, h.stationRate]

theorem groupOfStation (h : s.Searched r t) : t.groupOfStation i = s.groupOfStation i := by
  rw [State.groupOfStation, State.groupOfStation, State.group, State.group, h.group, h.profile]

theorem dropReason (h : s.Searched r t) : t.dropReason r i = s.dropReason r i := by
  funext f
  rw [State.dropReason, State.dropReason, h.groupOfStation, h.msClock, h.slotEstimate]

theorem capOf (h : s.Searched r t) (g : GroupIndex) : t.capOf r g = s.capOf r g := by
  rw [State.capOf, State.capOf, State.group, State.group, h.profile, h.self]
  rfl

theorem budget (h : s.Searched r t) (g : GroupIndex) (pass : PassKind) (offer : Nat) :
    t.budget r g pass offer = s.budget r g pass offer := by
  have usage : t.usage r g = s.usage r g := by
    rw [State.usage, h.self]
    rfl
  have group : t.group g = s.group g := by rw [State.group, State.group, h.profile]
  cases pass with
  | cap => rw [State.budget, State.budget, h.capOf, usage, group]
  | borrow => rw [State.budget, State.budget, group]

end State.Searched

/-! ### The station and the counters of a grant (R98) -/

theorem State.formGrant_station (s : State) (r : Radio) (i : StationIndex) (pass : PassKind) (budget : Nat)
    (sel : Selection) (j : StationIndex) :
    (s.formGrant r i pass budget sel).1.station j =
      if i = j then
        { s.station i with
          state := .granted, grantTag := some (s.radio r).grantTag
          deficit := (s.station i).deficit - (s.newGrant r i pass budget sel).estimate
          queue := sel.kept, dropped := (s.station i).dropped + BitVec.ofNat 32 sel.drops.length }
      else s.station j := by
  have other : ∀ h : i ≠ j, (s.dropFrames i sel.drops sel.kept).station j = s.station j := fun h => by
    simp [State.dropFrames, State.station_setStation_ne s _ h]
  have named : (s.newGrant r i pass budget sel).station = i := rfl
  simp only [State.formGrant, State.recordGrant, State.setRadio_station, State.chargeCounter_station,
    State.lendTo, State.station_setStation, State.leaveRing_station, named]
  split
  · rw [State.dropFrames_station_self]
    rfl
  · next h => exact other h

theorem State.chargeCounter_usage (s : State) (r : Radio) (g : GroupIndex) (pass : PassKind) (n : Nat) :
    ((s.chargeCounter r g pass n).radio r).usage = match pass with
      | .cap => (s.radio r).usage.set g (min ((s.radio r).usage[g] + n) Config.counterMax)
      | .borrow => (s.radio r).usage := by
  cases pass <;> simp [State.chargeCounter, State.setUsage, State.setBorrowed, State.usage]

theorem State.chargeCounter_borrowed (s : State) (r : Radio) (g : GroupIndex) (pass : PassKind) (n : Nat) :
    ((s.chargeCounter r g pass n).radio r).borrowed = match pass with
      | .cap => (s.radio r).borrowed
      | .borrow => (s.radio r).borrowed.set g (min ((s.radio r).borrowed[g] + n) Config.counterMax) := by
  cases pass <;> simp [State.chargeCounter, State.setUsage, State.setBorrowed, State.borrowed]

section
variable (s : State) (r : Radio) (i : StationIndex) (pass : PassKind) (budget : Nat) (sel : Selection)

theorem State.lent_counters (g : Grant) : (((s.dropFrames i sel.drops sel.kept).lendTo r g).radio r).usage =
      (s.radio r).usage ∧
    (((s.dropFrames i sel.drops sel.kept).lendTo r g).radio r).borrowed = (s.radio r).borrowed := by
  rw [((State.StationWork.dropFrames ..).trans (State.StationWork.lendTo ..)).radio r]
  exact ⟨rfl, rfl⟩

theorem State.formGrant_usage : (((s.formGrant r i pass budget sel).1).radio r).usage = match pass with
    | .cap => (s.radio r).usage.set (s.station i).group (min ((s.radio r).usage[(s.station i).group] +
        (s.newGrant r i pass budget sel).estimate) Config.counterMax)
    | .borrow => (s.radio r).usage := by
  obtain ⟨usage, -⟩ := s.lent_counters r i sel (s.newGrant r i pass budget sel)
  simp only [State.formGrant, State.recordGrant, State.radio_setRadio_self, State.chargeCounter_usage, usage]
  rfl

theorem State.formGrant_borrowed : (((s.formGrant r i pass budget sel).1).radio r).borrowed = match pass with
    | .cap => (s.radio r).borrowed
    | .borrow => (s.radio r).borrowed.set (s.station i).group (min ((s.radio r).borrowed[(s.station i).group] +
        (s.newGrant r i pass budget sel).estimate) Config.counterMax) := by
  obtain ⟨-, borrowed⟩ := s.lent_counters r i sel (s.newGrant r i pass budget sel)
  simp only [State.formGrant, State.recordGrant, State.radio_setRadio_self, State.chargeCounter_borrowed, borrowed]
  rfl

end

/-! ### The frame of OFFER -/

/-- What OFFER leaves of every station's record. -/
structure Station.OfferKept (st st' : Station) : Prop where
  owner : st'.owner = st.owner
  group : st'.group = st.group
  rate : st'.rate = st.rate
  weight : st'.weight = st.weight

/-- What a walk, with or without a grant, leaves alone; `formed` says how often grants formed was counted. -/
structure State.Walked (r : Radio) (formed : BitVec 32) (s t : State) : Prop extends s.RestKept t where
  self : t.radio r =
    { s.radio r with
      rings := (t.radio r).rings, marks := (t.radio r).marks, usage := (t.radio r).usage
      borrowed := (t.radio r).borrowed, grants := (t.radio r).grants, nextTag := (t.radio r).nextTag
      counters := { (s.radio r).counters with grantsFormed := (s.radio r).counters.grantsFormed + formed } }
  other : ∀ q, q ≠ r → t.radio q = s.radio q
  unringed : ∀ i, (∀ g, i ∉ (s.radio r).ring g) → t.station i = s.station i
  stations : ∀ i, (s.station i).OfferKept (t.station i)
  released : ∃ ns : List Notice, t.releaseList = s.releaseList ++ ns ∧
    ∀ n ∈ ns, n.reason = .expired ∨ n.reason = .oversize

theorem State.Searched.walked {r : Radio} {s t : State} (h : s.Searched r t) : s.Walked r 0 t where
  toRestKept := h.toRestKept
  self := by
    rw [h.self]
    simp
  other := h.other
  unringed := h.unringed
  stations i := by
    rw [h.station i]
    exact ⟨rfl, rfl, rfl, rfl⟩
  released := h.released

theorem Walk.Grants.walked {r : Radio} {offer : Nat} {s : State} {w v : Walk} (search : s.Searched r w.state)
    (h : Walk.Grants r offer w v) : s.Walked r 1 v.state := by
  obtain @⟨pass, g, i, ring, f, rest, allowed, head, queue, deficit, fits, formed, rfl⟩ := h
  have hi : i ∈ (w.state.radio r).ring g := by
    rw [head]
    exact List.mem_cons_self
  have searched := search.trans (State.Searched.headDrops hi)
  have grant := (w.state.headDrops r i).formGrant_formed r i pass (w.state.budget r g pass offer)
    ((w.state.headDrops r i).selection r i (w.state.budget r g pass offer) f rest)
  have station := (w.state.headDrops r i).formGrant_station r i pass (w.state.budget r g pass offer)
    ((w.state.headDrops r i).selection r i (w.state.budget r g pass offer) f rest)
  obtain ⟨ns, released, reasons⟩ := searched.released
  exact {
    toRestKept := searched.toRestKept.trans grant.toRestKept
    self := by
      rw [grant.self, searched.self]
    other := fun q hq => (grant.other q hq).trans (searched.other q hq)
    unringed := fun j hj => by
      have hne : i ≠ j := fun e => hj g (e ▸ search.members g i hi)
      rw [station j, if_neg hne]
      exact searched.unringed j hj
    stations := fun j => by
      rw [station j, searched.station j]
      split
      · next e =>
        subst e
        rw [searched.station i]
        exact ⟨rfl, rfl, rfl, rfl⟩
      · exact ⟨rfl, rfl, rfl, rfl⟩
    released := by
      refine ⟨ns ++ _, by rw [grant.released, released, List.append_assoc], fun n hn => ?_⟩
      rcases List.mem_append.1 hn with hn | hn
      · exact reasons n hn
      · exact State.dropReason_cases (selectFrames_reason _ _ _ hn) }

/-- One OFFER counts one of the first seven counters (R106). -/
theorem offersServed_countPass (c : RadioCounters) (reason : PassReason) :
    Spec.offersServed (c.countPass reason) = Spec.offersServed c + 1 ∧
      (c.countPass reason).timeouts = c.timeouts := by
  refine ⟨?_, by cases reason <;> rfl⟩
  cases reason <;> simp only [Spec.offersServed, RadioCounters.countPass] <;> ac_rfl

theorem offersServed_formed (c : RadioCounters) :
    Spec.offersServed { c with grantsFormed := c.grantsFormed + 1 } = Spec.offersServed c + 1 := by
  simp only [Spec.offersServed]
  ac_rfl

/-- What OFFER leaves alone, the counters apart: those a walk and the answer leave. -/
theorem State.Walked.restKept_eq {s t : State} (h : s.RestKept t) :
    t = { s with
      stations := t.stations, radioA := t.radioA, radioB := t.radioB, releaseList := t.releaseList,
      raw := t.raw } :=
  State.ext rfl h.scanCursor rfl h.msClock h.msPhase h.profile h.stack rfl rfl h.device rfl h.enabled
    h.control h.resetAnswerDue h.resetInput h.freezeInput h.choices h.pending

/-- The answer of an OFFER writes the marks, the counters and the port of its radio alone. -/
structure State.Answered (r : Radio) (c : RadioCounters) (s t : State) : Prop extends s.RestKept t where
  stations : t.stations = s.stations
  released : t.releaseList = s.releaseList
  self : t.radio r =
    { s.radio r with marks := (t.radio r).marks, counters := c, port := (t.radio r).port }
  other : ∀ q, q ≠ r → t.radio q = s.radio q

theorem State.answered_answerPass (s : State) (r : Radio) (reason : PassReason) :
    s.Answered r ((s.radio r).counters.countPass reason) (s.answerPass r reason) where
  toRestKept := (State.RestKept.setRadio ..).trans (.answer ..)
  stations := by simp [State.answerPass]
  released := by simp [State.answerPass]
  self := by simp [State.answerPass, State.answer, State.setPort]
  other q hq := by simp [State.answerPass, State.answer, State.setPort, State.radio_setRadio_ne _ _ hq.symm]

theorem State.answered_clearMarks (s : State) (r : Radio) :
    s.Answered r (s.radio r).counters (s.clearMarks r) where
  toRestKept := .setRadio ..
  stations := by simp [State.clearMarks]
  released := by simp [State.clearMarks]
  self := by simp [State.clearMarks]
  other q hq := State.radio_setRadio_ne _ _ hq.symm

theorem State.answered_answer (s : State) (r : Radio) (a : Answer) :
    s.Answered r (s.radio r).counters (s.answer (.radio r) a) where
  toRestKept := .answer ..
  stations := by simp
  released := by simp
  self := by simp [State.answer, State.setPort]
  other q hq := State.radio_setRadio_ne _ _ hq.symm

theorem State.Answered.trans {r : Radio} {c d : RadioCounters} {s t u : State} (h : s.Answered r c t)
    (h' : t.Answered r d u) : s.Answered r d u where
  toRestKept := h.toRestKept.trans h'.toRestKept
  stations := h'.stations.trans h.stations
  released := h'.released.trans h.released
  self := by rw [h'.self, h.self]
  other q hq := (h'.other q hq).trans (h.other q hq)

/-- An OFFER's walk and its answer, with the counters they leave. -/
theorem offerTaken_walked (r : Radio) (airtime : BitVec 16) (s : State) :
    ∃ formed u c, s.Walked r formed u ∧ u.Answered r c (offerTaken r airtime s) ∧
      Spec.offersServed c = Spec.offersServed (s.radio r).counters + 1 ∧
      c.timeouts = (s.radio r).counters.timeouts := by
  generalize offerTaken r airtime s = t, offerTaken_offered r airtime s = offered
  have same : s.Walked r 0 s := (State.Searched.refl r s).walked
  cases offered with
  | frozen | windowFull =>
    obtain ⟨served, timeouts⟩ := offersServed_countPass (s.radio r).counters _
    exact ⟨_, s, _, same, s.answered_answerPass r _, served, timeouts⟩
  | passed w walk hnone search =>
    have searched := search.searched_start
    have counters : ((w.state.clearMarks r).radio r).counters = (s.radio r).counters := by
      rw [(w.state.answered_clearMarks r).self, searched.self]
    have answered := (w.state.answered_clearMarks r).trans
      ((w.state.clearMarks r).answered_answerPass r (w.reason r))
    rw [counters] at answered
    obtain ⟨served, timeouts⟩ := offersServed_countPass (s.radio r).counters (w.reason r)
    exact ⟨_, _, _, searched.walked, answered, served, timeouts⟩
  | granted mid v g room search hnone grants hsome =>
    have walked := grants.walked search.searched_start
    have counters : ((v.state.clearMarks r).radio r).counters =
        { (s.radio r).counters with grantsFormed := (s.radio r).counters.grantsFormed + 1 } := by
      rw [(v.state.answered_clearMarks r).self, walked.self]
    have answered := (v.state.answered_clearMarks r).trans
      ((v.state.clearMarks r).answered_answer r (.grant g))
    rw [counters] at answered
    exact ⟨_, _, _, walked, answered, offersServed_formed _, rfl⟩

/-- Settles O45: what its walk leaves alone (`State.Walked`) the answer leaves alone too (`State.Answered`). -/
theorem offerFrame : Obligations.OfferFrame := by
  intro s t r airtime hopen e
  rw [exec_offer hopen] at e
  cases e
  obtain ⟨formed, u, c, walked, answered, served, timeouts⟩ := offerTaken_walked r airtime s
  generalize offerTaken r airtime s = t at answered
  have station : ∀ i, t.station i = u.station i := fun i => by
    rw [State.station, State.station, answered.stations]
  have counters : (t.radio r).counters = c := by rw [answered.self]
  refine ⟨?_, fun i hi => ?_, fun i => ?_, State.Walked.restKept_eq
    (walked.toRestKept.trans answered.toRestKept), ?_, ?_, ?_, ?_, ?_, ?_, ?_⟩
  · exact (answered.other _ (otherRadio_ne r)).trans (walked.other _ (otherRadio_ne r))
  · rw [station]
    exact walked.unringed i hi
  · rw [station]
    have kept := walked.stations i
    exact ⟨kept.owner, kept.group, kept.rate, kept.weight⟩
  · rw [answered.self, walked.self]
  · rw [answered.self, walked.self]
  · rw [answered.self, walked.self]
  · rw [answered.self, walked.self]
  · rw [answered.released]
    exact walked.released
  · rw [counters, served]
  · rw [counters, timeouts]

end Sys2Proof.Machine
end

section
/-! The bounds of every granted OFFER (R96 to R99). -/

namespace Sys2Proof.Machine

/-- The estimate of a selection is that of its frames' times, and the frames are 1 to 64 (R5, R96). -/
theorem State.selection_frames (s : State) (r : Radio) (i : StationIndex) (budget : Nat) (head : Slot)
    (rest : List Slot) (fits : s.slotEstimate r i head ≤ budget) :
    let sel := s.selection r i budget head rest
    1 ≤ sel.taken.length ∧ sel.taken.length ≤ 64 ∧ sel.sum = (sel.taken.map (s.slotTime r i)).sum ∧
      estimate (s.radio r).settings sel.sum ≤ budget := by
  obtain ⟨seen, -, -, -, sum, count, fit, -⟩ := selectionTakesLongestFit (s.dropReason r i) (s.slotTime r i)
    (fun sum => estimate (s.radio r).settings sum ≤ budget) 1 (s.slotTime r i head) rest (by decide)
  unfold State.selection
  generalize selectFrames (s.dropReason r i) (s.slotTime r i)
    (fun sum => estimate (s.radio r).settings sum ≤ budget) 1 (s.slotTime r i head) rest = sel at sum count fit
  refine ⟨Nat.succ_le_succ (Nat.zero_le _), by simpa [Nat.add_comm] using count, by simpa using sum, ?_⟩
  by_cases none : sel.taken = []
  · have alone : sel.sum = s.slotTime r i head := by simpa [none] using sum
    rw [alone]
    exact fits
  · exact of_decide_eq_true (fit none)

/-- What a granted OFFER leaves of its grant, its station and its radio. -/
structure State.GrantBounded (r : Radio) (airtime : BitVec 16) (g : Grant) (s t : State) : Prop where
  frames : 1 ≤ g.frames.length ∧ g.frames.length ≤ 64
  rate : g.rate = Spec.rateUsed s r g.station
  estimated : g.estimate = (s.radio r).settings.ppduOverhead +
    divUp ((g.frames.map fun f => frameTime (s.radio r).settings g.rate f.length).sum) 16
  fits : g.estimate ≤ g.budget
  budget : g.budget ≤ clampOffer airtime
  timer : g.timer = (s.radio r).settings.grantTimeout * 200
  grants : (t.radio r).grants = (s.radio r).grants ++ [g]
  tag : g.tag ∉ (s.radio r).grants.map (·.tag)
  nextTag : (t.radio r).nextTag = g.tag + 1
  group : g.group = (s.station g.station).group
  station : (t.station g.station).state = .granted ∧ (t.station g.station).grantTag = some g.tag ∧
    0 ≤ (t.station g.station).deficit + (g.estimate : Int)
  usage : (t.radio r).usage = (match g.pass with
    | .cap => (s.radio r).usage.set g.group (min ((s.radio r).usage[g.group] + g.estimate) 16777215)
    | .borrow => (s.radio r).usage)
  borrowed : (t.radio r).borrowed = (match g.pass with
    | .cap => (s.radio r).borrowed
    | .borrow => (s.radio r).borrowed.set g.group
        (min ((s.radio r).borrowed[g.group] + g.estimate) 16777215))
  allowed : Safety.RingsAgree s → s.allows r g.group g.pass

theorem Walk.Grants.bounded {r : Radio} {airtime : BitVec 16} {s : State} {w v : Walk} {g : Grant}
    (room : (s.radio r).grants.length < Config.grantWindow) (search : s.Searched r w.state)
    (h : Walk.Grants r (clampOffer airtime) w v) (hg : v.grant = some g) :
    State.GrantBounded r airtime g s v.state := by
  obtain @⟨pass, k, i, ring, f, rest, allowed, head, queue, deficit, fits, formed, rfl⟩ := h
  obtain rfl := Option.some.inj hg
  have hi : i ∈ (w.state.radio r).ring k := by
    rw [head]
    exact List.mem_cons_self
  have searched := search.trans (State.Searched.headDrops hi)
  have fitsHere := w.state.budget_le r k pass (clampOffer airtime)
  generalize w.state.budget r k pass (clampOffer airtime) = budget at fits fitsHere ⊢
  generalize w.state.headDrops r i = base at queue deficit fits searched ⊢
  have grant := base.formGrant_formed r i pass budget (base.selection r i budget f rest)
  have station := base.formGrant_station r i pass budget (base.selection r i budget f rest) i
  have usage := base.formGrant_usage r i pass budget (base.selection r i budget f rest)
  have borrowed := base.formGrant_borrowed r i pass budget (base.selection r i budget f rest)
  obtain ⟨some, most, sum, within⟩ := base.selection_frames r i budget f rest fits
  have grants : (base.radio r).grants = (s.radio r).grants := by rw [searched.self]
  have usageKept : (base.radio r).usage = (s.radio r).usage := by rw [searched.self]
  have borrowedKept : (base.radio r).borrowed = (s.radio r).borrowed := by rw [searched.self]
  have time : (fun f : Slot => frameTime (s.radio r).settings (base.stationRate r i) f.length) =
      s.slotTime r i := by
    rw [searched.stationRate]
    rfl
  rw [if_pos rfl] at station
  exact {
    frames := ⟨some, most⟩
    rate := searched.stationRate
    estimated := by
      change estimate (base.radio r).settings (base.selection r i budget f rest).sum = _
      rw [estimate, sum, searched.settings, searched.slotTime, ← time]
      rfl
    fits := within
    budget := fitsHere
    timer := by
      change usToCycles (base.radio r).settings.grantTimeout = _
      rw [searched.settings]
      rfl
    grants := by
      rw [grant.self, grants]
      rfl
    tag := by
      rw [← grants]
      exact RadioUnit.grantTag_not_mem (by rwa [grants])
    nextTag := by
      rw [grant.self]
      rfl
    group := searched.group
    station := by
      change ((base.formGrant r i pass budget _).1.station i).state = _ ∧
        ((base.formGrant r i pass budget _).1.station i).grantTag = _ ∧
        0 ≤ ((base.formGrant r i pass budget _).1.station i).deficit + _
      rw [station]
      refine ⟨rfl, rfl, ?_⟩
      exact le_of_le_of_eq deficit (Int.sub_add_cancel ..).symm
    usage := by
      rw [usage, usageKept]
      rfl
    borrowed := by
      rw [borrowed, borrowedKept]
      rfl
    allowed := fun rings => by
      have member := (rings.member r k i).1 (search.members k i hi)
      have group : (base.station i).group = k := searched.group.trans member.2.2
      change s.allows r (base.station i).group pass
      rw [group]
      exact search.allows.1 allowed }

theorem State.GrantBounded.answered {r : Radio} {airtime : BitVec 16} {g : Grant} {c : RadioCounters}
    {s t u : State} (h : s.GrantBounded r airtime g t) (answered : t.Answered r c u) :
    s.GrantBounded r airtime g u := by
  have station : ∀ i, u.station i = t.station i := fun i => by
    rw [State.station, State.station, answered.stations]
  exact { h with
    grants := by rw [answered.self]; exact h.grants
    nextTag := by rw [answered.self]; exact h.nextTag
    station := by rw [station]; exact h.station
    usage := by rw [answered.self]; exact h.usage
    borrowed := by rw [answered.self]; exact h.borrowed }

/-! ### The answer of an OFFER -/

@[simp] theorem State.answer_answers (s : State) (r : Radio) (a : Answer) :
    ((s.answer (.radio r) a).radio r).port.answers = (s.radio r).port.answers ++ [a] := by
  simp [State.answer, State.setPort, State.port]

theorem State.answerPass_answers (s : State) (r : Radio) (reason : PassReason) :
    ((s.answerPass r reason).radio r).port.answers = (s.radio r).port.answers ++ [.pass reason] := by
  simp [State.answerPass]

/-- An OFFER that answers GRANT or PASS was taken on an UP link. -/
theorem exec_offer_answered {s t : State} {r : Radio} {airtime : BitVec 16} {a : Answer}
    (e : exec (.offer r airtime) s = .next t)
    (answers : (t.radio r).port.answers = (s.radio r).port.answers ++ [a])
    (accepted : a ≠ .refused Kind.offerReq .linkDown) : t = offerTaken r airtime s := by
  have taken : s.onRadio r Kind.offerReq (offerTaken r airtime s) = .next t := e
  cases ignored : s.ignores (.radio r) with
  | true =>
    rw [State.onRadio_ignored ignored] at taken
    cases taken
    simp at answers
  | false =>
    cases up : (s.radio r).linkUp with
    | true =>
      rw [State.onRadio_taken ignored up] at taken
      cases taken
      rfl
    | false =>
      rw [State.onRadio_down ignored up] at taken
      cases taken
      rw [State.refuseRadio, State.answer_answers, List.append_cancel_left_eq, List.singleton_inj] at answers
      exact absurd answers.symm accepted

theorem offerTaken_granted {s : State} {r : Radio} {airtime : BitVec 16} {g : Grant}
    (answers : ((offerTaken r airtime s).radio r).port.answers = (s.radio r).port.answers ++ [.grant g]) :
    s.GrantBounded r airtime g (offerTaken r airtime s) := by
  have offered := offerTaken_offered r airtime s
  generalize offerTaken r airtime s = t at answers offered ⊢
  cases offered with
  | frozen | windowFull =>
    rw [State.answerPass_answers, List.append_cancel_left_eq] at answers
    cases answers
  | passed w walk hnone search =>
    have port : ((w.state.clearMarks r).radio r).port = (s.radio r).port := by
      rw [State.clearMarks, State.radio_setRadio_self, search.searched_start.self]
    rw [State.answerPass_answers, port, List.append_cancel_left_eq] at answers
    cases answers
  | granted mid v g' room search hnone grants hsome =>
    have port : ((v.state.clearMarks r).radio r).port = (s.radio r).port := by
      rw [State.clearMarks, State.radio_setRadio_self, (grants.walked search.searched_start).self]
    rw [State.answer_answers, port, List.append_cancel_left_eq] at answers
    cases answers
    exact ((grants.bounded room search.searched_start hsome).answered
      (v.state.answered_clearMarks r)).answered (State.answered_answer ..)

/-- Settles O44. -/
theorem offeredGrantsAreBounded : Obligations.OfferedGrantsAreBounded := by
  intro s t r airtime g e answers
  obtain rfl := exec_offer_answered e answers (by simp)
  have bounded := offerTaken_granted answers
  obtain ⟨granted, carries, deficit⟩ := bounded.station
  refine ⟨bounded.frames.1, bounded.frames.2, bounded.rate, bounded.estimated, bounded.fits,
    bounded.budget.trans (clampOffer_le airtime), bounded.budget.trans (Nat.min_le_left ..), bounded.timer,
    bounded.grants, bounded.tag, bounded.nextTag, bounded.group, granted, carries, deficit, bounded.usage,
    bounded.borrowed, fun rings => ⟨fun pass => ?_, fun pass => ?_⟩⟩
  · have allowed := bounded.allowed rings
    rw [pass] at allowed
    exact of_decide_eq_true allowed
  · have allowed := bounded.allowed rings
    rw [pass] at allowed
    exact allowed

end Sys2Proof.Machine
end

section
/-! The PASS reasons of a walk (R100): what they mean at its end, and two walks of a station alone. -/

namespace Sys2Proof.Machine

/-! ### TOO_SHORT: a station passed over stays over the budget -/

/-- A station in a ring with deficit 0 or above whose head frame is kept and exceeds the budget of a pass. -/
structure State.OverBudget (s : State) (r : Radio) (offer : Nat) (g : GroupIndex) (i : StationIndex) (f : Slot)
    (pass : PassKind) : Prop where
  member : i ∈ (s.radio r).ring g
  head : (s.station i).queue.head? = some f
  kept : s.dropReason r i f = none
  deficit : 0 ≤ (s.station i).deficit
  exceeds : s.budget r g pass offer < s.slotEstimate r i f

/-- A walk that has passed a station over has one that is over the budget. -/
def Walk.PassedOver (w : Walk) (r : Radio) (offer : Nat) : Prop :=
  w.passedOver = true → ∃ g i f pass, w.state.OverBudget r offer g i f pass

section
variable {r : Radio} {offer : Nat}

theorem State.OverBudget.searched {s t : State} {g : GroupIndex} {i : StationIndex} {f : Slot} {pass : PassKind}
    (h : s.OverBudget r offer g i f pass) (search : s.Searched r t) (member : i ∈ (t.radio r).ring g)
    (head : (t.station i).queue.head? = some f) (deficit : 0 ≤ (t.station i).deficit) :
    t.OverBudget r offer g i f pass where
  member := member
  head := head
  kept := by rw [search.dropReason]; exact h.kept
  deficit := deficit
  exceeds := by rw [search.budget, search.slotEstimate]; exact h.exceeds

/-- Writing the rings of the radio in another order keeps a station over the budget. -/
theorem State.OverBudget.of_perm {s t : State} {g : GroupIndex} {i : StationIndex} {f : Slot} {pass : PassKind}
    (h : s.OverBudget r offer g i f pass) (search : s.Searched r t)
    (rings : ∀ k, ((t.radio r).ring k).Perm ((s.radio r).ring k)) (station : t.station i = s.station i) :
    t.OverBudget r offer g i f pass :=
  h.searched search ((rings g).mem_iff.2 h.member) (station ▸ h.head) (station ▸ h.deficit)

theorem State.setRing_perm (s : State) {g : GroupIndex} {ring : List StationIndex}
    (h : ring.Perm ((s.radio r).ring g)) (k : GroupIndex) :
    (((s.setRing r g ring).radio r).ring k).Perm ((s.radio r).ring k) := by
  by_cases hk : g = k
  · subst hk
    rwa [State.setRing_ring_self]
  · have hval : g.val ≠ k.val := fun e => hk (Fin.ext e)
    simp [RadioUnit.ring, Vector.getElem_set_ne, hval]

theorem rotate_perm (ring : List StationIndex) : (rotate ring).Perm ring := by
  cases ring with
  | nil => exact List.Perm.refl _
  | cons i ring => exact List.perm_append_singleton i ring

theorem State.headDrops_ring (s : State) (i : StationIndex) (k : GroupIndex) :
    ((s.headDrops r i).radio r).ring k = (s.radio r).ring k := by
  rw [State.headDrops_radio]

theorem State.headDrops_station_ne (s : State) {i j : StationIndex} (h : i ≠ j) :
    (s.headDrops r i).station j = s.station j := by
  simp [State.headDrops, State.dropFrames, State.station_setStation_ne s _ h]

theorem State.visitPassOver_station (s : State) (g : GroupIndex) (i j : StationIndex) :
    (s.visitPassOver r g i).station j = s.station j := by
  simp [State.visitPassOver, State.rotateRing]

theorem State.visitPassOver_rings (s : State) (g : GroupIndex) (i : StationIndex) (k : GroupIndex) :
    (((s.visitPassOver r g i).radio r).ring k).Perm ((s.radio r).ring k) := by
  have rotated := s.setRing_perm (r := r) (g := g) (rotate_perm _) k
  simpa [State.visitPassOver, State.rotateRing, RadioUnit.ring] using rotated

theorem State.visitCredit_rings (s : State) (g : GroupIndex) (i : StationIndex) (k : GroupIndex) :
    (((s.visitCredit r g i).radio r).ring k).Perm ((s.radio r).ring k) := by
  have rotated := s.setRing_perm (r := r) (g := g) (rotate_perm _) k
  simpa [State.visitCredit, State.rotateRing] using rotated

/-- A visit of another station keeps a station over the budget. -/
theorem State.OverBudget.headDrops {s : State} {g : GroupIndex} {i j : StationIndex} {f : Slot} {pass : PassKind}
    {k : GroupIndex} (h : s.OverBudget r offer g i f pass) (hj : j ∈ (s.radio r).ring k) (hne : j ≠ i) :
    (s.headDrops r j).OverBudget r offer g i f pass :=
  h.of_perm (.headDrops hj) (fun k => by rw [State.headDrops_ring]) (s.headDrops_station_ne hne)

/-- A station over the budget keeps its head frame through its own visit. -/
theorem State.OverBudget.headDrops_self {s : State} {g : GroupIndex} {i : StationIndex} {f : Slot}
    {pass : PassKind} (h : s.OverBudget r offer g i f pass) : s.headDrops r i = s := by
  obtain ⟨rest, queue⟩ : ∃ rest, (s.station i).queue = f :: rest := by
    have head := h.head
    cases hq : (s.station i).queue with
    | nil => simp [hq] at head
    | cons k ks =>
      rw [hq, List.head?_cons, Option.some.injEq] at head
      exact ⟨ks, by rw [head]⟩
  exact State.headDrops_of_kept queue h.kept

/-- Every step of a search keeps that: a station over the budget is neither emptied nor credited. -/
theorem Walk.SearchStep.passedOver {w v : Walk} (h : Walk.SearchStep r offer w v) (hw : w.PassedOver r offer) :
    v.PassedOver r offer := by
  have searched := h.searched
  cases h with
  | skip g =>
    intro hp
    obtain ⟨k, i, f, pass, hover⟩ := hw hp
    exact ⟨k, i, f, pass, hover.of_perm searched (State.setRing_perm _ (skipMarked_perm ..)) (by simp)⟩
  | clear =>
    intro hp
    obtain ⟨k, i, f, pass, hover⟩ := hw hp
    exact ⟨k, i, f, pass, hover.of_perm searched (fun k => by rw [State.clearMarks_ring]) (by simp)⟩
  | @empty g j ring head queue =>
    intro hp
    obtain ⟨k, i, f, pass, hover⟩ := hw hp
    have hj : j ∈ (w.state.radio r).ring g := by
      rw [head]
      exact List.mem_cons_self
    have hne : j ≠ i := by
      rintro rfl
      rw [hover.headDrops_self] at queue
      have first := hover.head
      rw [queue] at first
      exact absurd first (by simp)
    have drops := hover.headDrops hj hne
    have station : ((w.state.headDrops r j).visitEmpty r g j).station i =
        (w.state.headDrops r j).station i := by
      simp [State.visitEmpty, State.station_setStation_ne _ _ hne]
    refine ⟨k, i, f, pass, drops.searched (.visitEmpty (by simpa using hj)) ?_ (station ▸ drops.head)
      (station ▸ drops.deficit)⟩
    rw [State.visitEmpty, State.setStation_radio]
    by_cases hk : g = k
    · subst hk
      rw [State.leaveRing_ring_self]
      exact (List.mem_erase_of_ne hne.symm).2 drops.member
    · have hval : g.val ≠ k.val := fun e => hk (Fin.ext e)
      simpa [State.leaveRing, RadioUnit.ring, Vector.getElem_set_ne, hval] using drops.member
  | @credit g j ring f' rest head queue deficit =>
    intro hp
    obtain ⟨k, i, f, pass, hover⟩ := hw hp
    have hj : j ∈ (w.state.radio r).ring g := by
      rw [head]
      exact List.mem_cons_self
    have hne : j ≠ i := by
      rintro rfl
      rw [hover.headDrops_self] at deficit
      exact absurd hover.deficit (Int.not_le.2 deficit)
    exact ⟨k, i, f, pass, (hover.headDrops hj hne).of_perm (.visitCredit (by simpa using hj))
      (fun k => State.visitCredit_rings _ g j k) (by simp [State.visitCredit, State.station_setStation_ne _ _ hne,
        State.rotateRing])⟩
  | @passOver pass g j ring f rest head queue deficit exceeds =>
    intro _
    have hj : j ∈ (w.state.radio r).ring g := by
      rw [head]
      exact List.mem_cons_self
    have drops := State.Searched.headDrops hj
    have keptQueue : (splitDrops (w.state.dropReason r j) (w.state.station j).queue).2 = f :: rest := by
      have left : ((w.state.headDrops r j).station j).queue =
        (splitDrops (w.state.dropReason r j) (w.state.station j).queue).2 := by
        rw [State.headDrops, State.dropFrames_station_self]
      exact left.symm.trans queue
    have visited : (w.state.headDrops r j).OverBudget r offer g j f pass := {
      member := by rwa [State.headDrops_ring]
      head := by rw [queue]; rfl
      kept := by rw [drops.dropReason]; exact splitDrops_kept_head _ _ f rest keptQueue
      deficit := deficit
      exceeds := by rw [drops.budget]; exact exceeds }
    exact ⟨g, j, f, pass, visited.of_perm (.visitPassOver ..) (State.visitPassOver_rings _ g j)
      (State.visitPassOver_station ..)⟩

theorem Walk.Search.passedOver {w v : Walk} (h : Walk.Search r offer w v) (hw : w.PassedOver r offer) :
    v.PassedOver r offer := by
  induction h with
  | refl => exact hw
  | tail _ step ih => exact step.passedOver ih

/-! ### CAPPED: without a station passed over, a turn empties its ring -/

/-- A walk that has passed no station over has marked none. -/
def Walk.Unmarked (w : Walk) (r : Radio) : Prop := w.passedOver = false → (w.state.radio r).marks = []

theorem Walk.SearchStep.unmarked {w v : Walk} (h : Walk.SearchStep r offer w v) (hw : w.Unmarked r) :
    (v.passedOver = false → w.passedOver = false) ∧ v.Unmarked r := by
  cases h with
  | skip g => exact ⟨id, fun hp => by simpa using hw hp⟩
  | clear => exact ⟨id, fun _ => State.clearMarks_marks ..⟩
  | empty head queue =>
    exact ⟨id, fun hp => by simpa [State.visitEmpty, State.leaveRing] using hw hp⟩
  | credit head queue deficit =>
    exact ⟨id, fun hp => by simpa [State.visitCredit, State.rotateRing] using hw hp⟩
  | passOver head queue deficit exceeds => exact ⟨fun hp => absurd hp (by simp), fun hp => absurd hp (by simp)⟩

theorem Walk.Search.unmarked {w v : Walk} (h : Walk.Search r offer w v) (hw : w.Unmarked r) :
    (v.passedOver = false → w.passedOver = false) ∧ v.Unmarked r := by
  induction h with
  | refl => exact ⟨id, hw⟩
  | tail _ step ih =>
    obtain ⟨back, unmarked⟩ := ih
    obtain ⟨back', unmarked'⟩ := step.unmarked unmarked
    exact ⟨fun hp => back (back' hp), unmarked'⟩

theorem Walk.Continues.search {w v : Walk} (h : Walk.Continues r offer w v) (hnone : v.grant = none) :
    Walk.Search r offer w v := by
  obtain ⟨-, search⟩ | ⟨mid, -, -, grants⟩ := h
  · exact search
  · exact absurd grants.grant_isSome (by simp [hnone])

theorem Walk.turn_search {pass : PassKind} {g : GroupIndex} {n : Nat} {w : Walk} (allowed : w.state.allows r g pass)
    (hnone : w.grant = none) (ends : (Walk.turn r pass offer g n w).grant = none) :
    Walk.Search r offer w (Walk.turn r pass offer g n w) := (Walk.turn_continues n hnone allowed).search ends

theorem Walk.turn_of_grant_none {pass : PassKind} {g : GroupIndex} {i : StationIndex} {ring : List StationIndex}
    {w : Walk} (marks : (w.state.radio r).marks = []) (head : (w.state.radio r).ring g = i :: ring) (n : Nat)
    (ends : (Walk.turn r pass offer g (n + 1) w).grant = none) :
    (w.visit r pass offer g i).grant = none ∧
      Walk.turn r pass offer g (n + 1) w = Walk.turn r pass offer g n (w.visit r pass offer g i) := by
  rw [Walk.turn_of_unmarked marks head] at ends ⊢
  split at ends
  · next hsome => exact absurd ends (Option.ne_none_iff_isSome.2 hsome)
  · next hnone => exact ⟨by simpa using hnone, if_neg hnone⟩

/-- A turn that ends with visits left, no grant and no station passed over ends with the ring empty (R89). -/
theorem Walk.turn_empties {pass : PassKind} {g : GroupIndex} (n : Nat) {w : Walk} (hn : w.visits = n)
    (allowed : w.state.allows r g pass) (hnone : w.grant = none) (unmarked : w.Unmarked r)
    (ends : (Walk.turn r pass offer g n w).grant = none)
    (left : (Walk.turn r pass offer g n w).visits ≠ 0)
    (noPass : (Walk.turn r pass offer g n w).passedOver = false) :
    ((Walk.turn r pass offer g n w).state.radio r).ring g = [] := by
  induction n generalizing w with
  | zero => exact absurd hn left
  | succ n ih =>
    have fresh := ((Walk.turn_search allowed hnone ends).unmarked unmarked).1 noPass
    have marks := unmarked fresh
    cases head : (w.state.radio r).ring g with
    | nil =>
      have stop : Walk.turn r pass offer g (n + 1) w = w := by
        simp only [Walk.turn, marks, head, skipMarked_nil]
      rw [stop, head]
    | cons i ring =>
      obtain ⟨hnone', eq⟩ := Walk.turn_of_grant_none marks head n ends
      rw [eq] at ends left noPass ⊢
      rcases Walk.visit_cases (offer := offer) head allowed with ⟨-, step⟩ | grants
      · exact ih (by rw [Walk.visit_visits, hn, Nat.add_sub_cancel]) (step.searched.allows.2 allowed) hnone'
          (step.unmarked unmarked).2 ends left noPass
      · exact absurd hnone' (Option.ne_none_iff_isSome.2 grants.grant_isSome)

/-- The visits left never grow. -/
theorem Walk.SearchStep.visits_le {w v : Walk} (h : Walk.SearchStep r offer w v) : v.visits ≤ w.visits := by
  cases h with
  | skip | clear => exact Nat.le_refl _
  | empty | credit | passOver => exact Nat.sub_le ..

theorem Walk.Search.visits_le {w v : Walk} (h : Walk.Search r offer w v) : v.visits ≤ w.visits := by
  induction h with
  | refl => exact Nat.le_refl _
  | tail _ step ih => exact step.visits_le.trans ih

theorem State.Searched.empty {s t : State} (h : s.Searched r t) {g : GroupIndex}
    (empty : (s.radio r).ring g = []) : (t.radio r).ring g = [] :=
  List.eq_nil_iff_forall_not_mem.2 fun i hi => by simpa [empty] using h.members g i hi

/-- A group whose turn has been fruitless has no ring, or the pass does not allow it. -/
theorem Walk.tryGroup_empties {pass : PassKind} {g : GroupIndex} {w : Walk} (hnone : w.grant = none)
    (unmarked : w.Unmarked r) (ends : (w.tryGroup r pass offer g).grant = none)
    (left : (w.tryGroup r pass offer g).visits ≠ 0) (noPass : (w.tryGroup r pass offer g).passedOver = false) :
    ((w.tryGroup r pass offer g).state.radio r).ring g = [] ∨ ¬ w.state.allows r g pass := by
  by_cases tried : w.state.tried r pass g = true
  · have turn : w.tryGroup r pass offer g = Walk.turn r pass offer g w.visits w :=
      if_pos (by simp [hnone, tried])
    rw [turn] at ends left noPass ⊢
    exact .inl (Walk.turn_empties _ rfl (State.tried_allows tried) hnone unmarked ends left noPass)
  · rw [Bool.not_eq_true] at tried
    rw [Walk.tryGroup_of_not_tried tried]
    cases pass with
    | cap =>
      refine (State.not_tried_cap_iff.1 tried).imp id fun h allowed => ?_
      exact Nat.not_lt.2 h (of_decide_eq_true allowed)
    | borrow =>
      refine (State.not_tried_borrow_iff.1 tried).imp id fun h allowed => ?_
      exact Bool.eq_false_iff.1 h allowed

/-- After a fruitless pass no group that the pass allows has a ring. -/
theorem Walk.foldl_empties {pass : PassKind} (gs : List GroupIndex) {w : Walk} (hnone : w.grant = none)
    (unmarked : w.Unmarked r) (ends : (gs.foldl (fun w g => w.tryGroup r pass offer g) w).grant = none)
    (left : (gs.foldl (fun w g => w.tryGroup r pass offer g) w).visits ≠ 0)
    (noPass : (gs.foldl (fun w g => w.tryGroup r pass offer g) w).passedOver = false) {g : GroupIndex}
    (hg : g ∈ gs) (allowed : w.state.allows r g pass) :
    ((gs.foldl (fun w g => w.tryGroup r pass offer g) w).state.radio r).ring g = [] := by
  induction gs generalizing w with
  | nil => exact absurd hg List.not_mem_nil
  | cons k gs ih =>
    rw [List.foldl_cons] at ends left noPass ⊢
    have here : (w.tryGroup r pass offer k).grant = none := by
      cases hsome : (w.tryGroup r pass offer k).grant with
      | none => rfl
      | some grant =>
        rw [Walk.foldl_of_grant gs (by simp [hsome]), hsome] at ends
        exact absurd ends (by simp)
    have first := (Walk.tryGroup_continues (pass := pass) (g := k) hnone).search here
    have rest := (Walk.foldl_continues (pass := pass) gs here).search ends
    obtain ⟨-, unmarked'⟩ := first.unmarked unmarked
    rcases List.mem_cons.1 hg with rfl | hg
    · have emptied := Walk.tryGroup_empties hnone unmarked here
        (fun zero => left (Nat.le_zero.1 (zero ▸ rest.visits_le))) ((rest.unmarked unmarked').1 noPass)
      exact rest.searched.empty (emptied.resolve_right (not_not.2 allowed))
    · exact ih here unmarked' ends left noPass hg (first.searched.allows.2 allowed)

theorem Walk.overGroups_search {pass : PassKind} {w : Walk} (hnone : w.grant = none)
    (ends : (w.overGroups r pass offer).grant = none) : Walk.Search r offer w (w.overGroups r pass offer) :=
  (Walk.foldl_continues (List.finRange 4) hnone).search ends

theorem Walk.overGroups_empties {pass : PassKind} {w : Walk} (hnone : w.grant = none) (unmarked : w.Unmarked r)
    (ends : (w.overGroups r pass offer).grant = none) (left : (w.overGroups r pass offer).visits ≠ 0)
    (noPass : (w.overGroups r pass offer).passedOver = false) {g : GroupIndex} (allowed : w.state.allows r g pass) :
    ((w.overGroups r pass offer).state.radio r).ring g = [] :=
  Walk.foldl_empties (List.finRange 4) hnone unmarked ends left noPass (List.mem_finRange g) allowed

/-- A walk without a grant is its cap pass, where that has spent the visits, or its borrow pass (R87, R90). -/
theorem State.walk_of_grant_none {s : State} (ends : (s.walk r offer).grant = none) {w : Walk}
    (hw : w = Walk.overGroups ⟨s, Config.visitBudget, false, none⟩ r .cap offer) :
    w.grant = none ∧ (w.visits = 0 ∧ s.walk r offer = w ∨
      w.visits ≠ 0 ∧
        s.walk r offer = Walk.overGroups { w with state := w.state.clearMarks r } r .borrow offer) := by
  have walk : s.walk r offer = if w.grant.isSome || w.visits = 0 then w
      else Walk.overGroups { w with state := w.state.clearMarks r } r .borrow offer := by
    rw [hw]
    rfl
  rw [walk] at ends ⊢
  by_cases spent : w.visits = 0
  · rw [if_pos (by simp [spent])] at ends ⊢
    exact ⟨ends, .inl ⟨spent, rfl⟩⟩
  · cases hgrant : w.grant with
    | none => exact ⟨rfl, .inr ⟨spent, if_neg (by simp [spent])⟩⟩
    | some grant =>
      rw [if_pos (by simp [hgrant]), hgrant] at ends
      exact absurd ends (by simp)

/-- A fruitless walk leaves no ring that a pass allows (R88, R90, R100). -/
theorem State.walk_empties {s : State} (marks : (s.radio r).marks = []) (ends : (s.walk r offer).grant = none)
    (left : (s.walk r offer).visits ≠ 0) (noPass : (s.walk r offer).passedOver = false) {g : GroupIndex}
    {pass : PassKind} (allowed : s.allows r g pass) : ((s.walk r offer).state.radio r).ring g = [] := by
  let start : Walk := ⟨s, Config.visitBudget, false, none⟩
  have unmarked : start.Unmarked r := fun _ => marks
  obtain ⟨w, hw⟩ : ∃ w, w = start.overGroups r .cap offer := ⟨_, rfl⟩
  obtain ⟨capNone, ⟨spent, walk⟩ | ⟨more, walk⟩⟩ := State.walk_of_grant_none ends hw
  · exact absurd spent (walk ▸ left)
  have search : Walk.Search r offer start w := by
    rw [hw] at capNone ⊢
    exact Walk.overGroups_search rfl capNone
  have unmarked' : Walk.Unmarked { w with state := w.state.clearMarks r } r :=
    fun _ => State.clearMarks_marks ..
  rw [walk] at ends left noPass ⊢
  have borrow := Walk.overGroups_search (w := { w with state := w.state.clearMarks r }) capNone ends
  cases pass with
  | cap =>
    have fresh : w.passedOver = false := (borrow.unmarked unmarked').1 noPass
    have emptied : (w.state.radio r).ring g = [] := by
      rw [hw] at capNone more fresh ⊢
      exact Walk.overGroups_empties rfl unmarked capNone more fresh allowed
    exact borrow.searched.empty ((State.clearMarks_ring ..).trans emptied)
  | borrow =>
    exact Walk.overGroups_empties (w := { w with state := w.state.clearMarks r }) capNone unmarked' ends left
      noPass ((search.searched.trans (.clearMarks _)).allows.2 allowed)

end

end Sys2Proof.Machine
end

section
/-! The PASS reasons (R100): the statement, with the two walks of a station alone in its radio's rings. -/

namespace Sys2Proof.Machine

/-! ### A pass that tries one group alone -/

theorem Walk.overGroups_of_only {w : Walk} {r : Radio} {pass : PassKind} {offer : Nat} (g : GroupIndex)
    (before : ∀ h, h ≠ g → w.state.tried r pass h = false)
    (after : ∀ h, h ≠ g → (w.tryGroup r pass offer g).state.tried r pass h = false) :
    w.overGroups r pass offer = w.tryGroup r pass offer g := by
  have idle : ∀ (gs : List GroupIndex) (u : Walk), (∀ h, h ≠ g → u.state.tried r pass h = false) →
      g ∉ gs → gs.foldl (fun w g => w.tryGroup r pass offer g) u = u := by
    intro gs u hu
    induction gs with
    | nil => exact fun _ => rfl
    | cons h gs ih =>
      intro hg
      rw [List.mem_cons, not_or] at hg
      rw [List.foldl_cons, Walk.tryGroup_of_not_tried (hu h (Ne.symm hg.1)), ih hg.2]
  obtain ⟨pre, post, split⟩ := List.append_of_mem (List.mem_finRange g)
  have nodup := List.nodup_finRange 4
  rw [split, List.nodup_append, List.nodup_cons] at nodup
  obtain ⟨-, ⟨notPost, -⟩, disjoint⟩ := nodup
  have notPre : g ∉ pre := fun h => disjoint g h g List.mem_cons_self rfl
  rw [Walk.overGroups, split, List.foldl_append, idle pre w before notPre, List.foldl_cons,
    idle post _ after notPost]

/-- A station alone in the rings of a radio, with a head frame that no test drops. -/
structure State.Alone (s : State) (r : Radio) (g : GroupIndex) (i : StationIndex) (f : Slot) (rest : List Slot) :
    Prop where
  ring : (s.radio r).ring g = [i]
  others : ∀ h, h ≠ g → (s.radio r).ring h = []
  queue : (s.station i).queue = f :: rest
  kept : s.dropReason r i f = none

/-- The state with one station marked. -/
def State.mark (s : State) (r : Radio) (i : StationIndex) : State :=
  s.setRadio r { s.radio r with marks := [i] }

section
variable {s : State} {r : Radio} {g : GroupIndex} {i : StationIndex} {f : Slot} {rest : List Slot}

theorem State.not_tried_of_empty {h : GroupIndex} (empty : (s.radio r).ring h = []) (pass : PassKind) :
    s.tried r pass h = false := by
  cases pass
  exacts [State.not_tried_cap_iff.2 (.inl empty), State.not_tried_borrow_iff.2 (.inl empty)]

theorem State.mark_ring (h : GroupIndex) : ((s.mark r i).radio r).ring h = (s.radio r).ring h := by
  simp [State.mark, RadioUnit.ring]

theorem State.mark_marks : ((s.mark r i).radio r).marks = [i] := by simp [State.mark]

theorem State.clearMarks_mark (marks : (s.radio r).marks = []) : (s.mark r i).clearMarks r = s := by
  have cleared : (s.mark r i).clearMarks r = s.clearMarks r := by simp [State.mark, State.clearMarks]
  rw [cleared, State.clearMarks_of_nil marks]

theorem State.Alone.rotateRing (h : s.Alone r g i f rest) : s.rotateRing r g = s := by
  have same : s.setRing r g [i] = s := by rw [← h.ring, State.setRing_ring]
  rw [State.rotateRing, h.ring]
  exact same

/-! ### Passed over -/

/-- A turn that passes its only station over ends with that station marked. -/
theorem Walk.turn_alone_passOver {w : Walk} {pass : PassKind} {offer : Nat} (h : w.state.Alone r g i f rest)
    (marks : (w.state.radio r).marks = []) (hnone : w.grant = none)
    (deficit : 0 ≤ (w.state.station i).deficit)
    (exceeds : w.state.budget r g pass offer < w.state.slotEstimate r i f) (n : Nat) :
    Walk.turn r pass offer g (n + 1) w =
      { w with visits := w.visits - 1, passedOver := true, state := w.state.mark r i } := by
  have drops := State.headDrops_of_kept h.queue h.kept
  have visit : w.visit r pass offer g i =
      { w with visits := w.visits - 1, passedOver := true, state := w.state.mark r i } := by
    rw [Walk.visit_passOver (f := f) (rest := rest) (by rw [drops, h.queue]) (by rwa [drops]) (by rwa [drops]),
      drops, State.visitPassOver, h.rotateRing, marks]
    rfl
  rw [Walk.turn_of_unmarked marks h.ring, visit, if_neg (by simp [hnone])]
  cases n with
  | zero => rfl
  | succ n => simp [Walk.turn, State.mark_marks, State.mark_ring, h.ring, skipMarked]

theorem Walk.overGroups_alone_passOver {w : Walk} {pass : PassKind} {offer : Nat}
    (h : w.state.Alone r g i f rest) (marks : (w.state.radio r).marks = []) (hnone : w.grant = none)
    (left : w.visits ≠ 0) (deficit : 0 ≤ (w.state.station i).deficit)
    (exceeds : w.state.budget r g pass offer < w.state.slotEstimate r i f)
    (tried : w.state.tried r pass g = true) :
    w.overGroups r pass offer =
      { w with visits := w.visits - 1, passedOver := true, state := w.state.mark r i } := by
  obtain ⟨n, hn⟩ := Nat.exists_eq_succ_of_ne_zero left
  have turn : w.tryGroup r pass offer g =
      { w with visits := w.visits - 1, passedOver := true, state := w.state.mark r i } := by
    rw [Walk.tryGroup, if_pos (by simp [hnone, tried]), hn]
    exact (Walk.turn_alone_passOver h marks hnone deficit exceeds n).trans (by rw [hn])
  rw [Walk.overGroups_of_only g (fun k hk => State.not_tried_of_empty (h.others k hk) pass), turn]
  rw [turn]
  exact fun k hk => State.not_tried_of_empty ((State.mark_ring _).trans (h.others k hk)) pass

/-- A station alone that both passes find over the budget is passed over, once in each pass that tries it. -/
theorem State.walk_alone_passOver {offer : Nat} (h : s.Alone r g i f rest) (marks : (s.radio r).marks = [])
    (within : s.withinCap r g = true) (deficit : 0 ≤ (s.station i).deficit)
    (exceeds : s.budget r g .borrow offer < s.slotEstimate r i f) :
    ∃ v, s.walk r offer = v ∧ v.grant = none ∧ v.passedOver = true ∧ v.visits ≠ 0 ∧
      (v.state.radio r).ring g = [i] ∧ v.state.clearMarks r = s := by
  have capBudget : s.budget r g .cap offer ≤ s.budget r g .borrow offer :=
    min_le_min_left _ (Nat.min_le_left ..)
  have tried : s.tried r .cap g = true := by simp [State.tried, h.ring, within]
  refine ⟨_, rfl, ?_⟩
  have cap := Walk.overGroups_alone_passOver (w := ⟨s, Config.visitBudget, false, none⟩) (pass := .cap)
    (offer := offer) h marks rfl (Nat.succ_ne_zero 31) deficit (capBudget.trans_lt exceeds) tried
  unfold State.walk
  rw [cap]
  simp only [Option.isSome_none, Bool.false_or, Config.visitBudget, State.clearMarks_mark marks]
  rw [if_neg (of_decide_eq_false rfl)]
  by_cases borrows : s.tried r .borrow g = true
  · rw [Walk.overGroups_alone_passOver (w := ⟨s, 32 - 1, true, none⟩) h marks rfl (by simp) deficit exceeds
      borrows]
    exact ⟨rfl, rfl, Nat.succ_ne_zero 29, (State.mark_ring _).trans h.ring, State.clearMarks_mark marks⟩
  · rw [Bool.not_eq_true] at borrows
    rw [Walk.overGroups_of_none_tried (w := ⟨s, 32 - 1, true, none⟩)]
    · exact ⟨rfl, rfl, Nat.succ_ne_zero 30, h.ring, State.clearMarks_of_nil marks⟩
    · intro k
      by_cases hk : k = g
      · subst hk
        exact borrows
      · exact State.not_tried_of_empty (h.others k hk) _

/-! ### Credited -/

/-- The station with its deficit raised. -/
def State.credit (s : State) (i : StationIndex) (n : Nat) : State :=
  s.setStation i { s.station i with deficit := (s.station i).deficit + n }

/-- The credit of one visit (R93). -/
def State.visitGain (s : State) (i : StationIndex) : Nat :=
  effectiveQuantum (s.groupOfStation i).quantum (s.station i).weight

theorem State.credit_zero : s.credit i 0 = s := by
  have same : (s.station i).deficit + ((0 : Nat) : Int) = (s.station i).deficit := Int.add_zero _
  rw [State.credit, same]
  exact s.setStation_station i

theorem State.credit_credit (m n : Nat) : (s.credit i m).credit i n = s.credit i (m + n) := by
  simp [State.credit, Int.add_assoc]

theorem State.visitGain_credit (n : Nat) : (s.credit i n).visitGain i = s.visitGain i := by
  simp [State.visitGain, State.credit, State.groupOfStation]

theorem State.Alone.credit (h : s.Alone r g i f rest) (n : Nat) : (s.credit i n).Alone r g i f rest where
  ring := by simpa [State.credit] using h.ring
  others k hk := by simpa [State.credit] using h.others k hk
  queue := by simpa [State.credit] using h.queue
  kept := by
    have group : (s.credit i n).groupOfStation i = s.groupOfStation i := by
      simp [State.groupOfStation, State.credit]
    have estimate : (s.credit i n).slotEstimate r i f = s.slotEstimate r i f := by
      simp [State.slotEstimate, State.stationRate, State.credit]
    rw [State.dropReason, group, estimate]
    exact h.kept

/-- A turn whose only station stays below 0 through all its visits credits it at each of them. -/
theorem Walk.turn_alone_credit {pass : PassKind} {offer : Nat} (n : Nat) {w : Walk}
    (h : w.state.Alone r g i f rest) (marks : (w.state.radio r).marks = []) (hnone : w.grant = none)
    (deficit : ∀ k < n, (w.state.station i).deficit + (k * w.state.visitGain i : Nat) < 0) :
    Walk.turn r pass offer g n w =
      { w with visits := w.visits - n, state := w.state.credit i (n * w.state.visitGain i) } := by
  induction n generalizing w with
  | zero => simp [Walk.turn, State.credit_zero]
  | succ n ih =>
    have drops := State.headDrops_of_kept h.queue h.kept
    have below : (w.state.station i).deficit < 0 := by simpa using deficit 0 (Nat.succ_pos n)
    have visit : w.visit r pass offer g i =
        { w with visits := w.visits - 1, state := w.state.credit i (w.state.visitGain i) } := by
      rw [Walk.visit_credit (f := f) (rest := rest) (by rw [drops, h.queue]) (by rwa [drops]), drops,
        State.visitCredit, h.rotateRing]
      rfl
    rw [Walk.turn_of_unmarked marks h.ring, visit, if_neg (by simp [hnone]),
      ih (w := { w with visits := w.visits - 1, state := w.state.credit i (w.state.visitGain i) }) (h.credit _)
        (by simpa [State.credit] using marks) hnone]
    · simp only [State.visitGain_credit, State.credit_credit]
      rw [Nat.sub_sub, Nat.add_comm 1 n, Nat.succ_mul, Nat.add_comm (n * _)]
    · intro k hk
      have next := deficit (k + 1) (Nat.succ_lt_succ hk)
      simp only [State.visitGain_credit]
      simp only [State.credit, State.station_setStation_self]
      rw [Nat.succ_mul] at next
      push_cast at next ⊢
      omega

theorem State.walk_alone_credit {offer : Nat} (h : s.Alone r g i f rest) (marks : (s.radio r).marks = [])
    (within : s.withinCap r g = true)
    (deficit : (s.station i).deficit + (31 * s.visitGain i : Nat) < 0) :
    s.walk r offer = ⟨s.credit i (32 * s.visitGain i), 0, false, none⟩ := by
  have tried : s.tried r .cap g = true := by simp [State.tried, h.ring, within]
  have turn : Walk.tryGroup ⟨s, Config.visitBudget, false, none⟩ r .cap offer g =
      ⟨s.credit i (32 * s.visitGain i), 0, false, none⟩ := by
    rw [Walk.tryGroup, if_pos (by simpa using tried)]
    refine (Walk.turn_alone_credit 32 (w := ⟨s, 32, false, none⟩) h marks rfl fun k hk => ?_).trans rfl
    have most : k * s.visitGain i ≤ 31 * s.visitGain i := Nat.mul_le_mul_right _ (Nat.le_of_lt_succ hk)
    change (s.station i).deficit + (k * s.visitGain i : Nat) < 0
    omega
  have cap : Walk.overGroups ⟨s, Config.visitBudget, false, none⟩ r .cap offer =
      ⟨s.credit i (32 * s.visitGain i), 0, false, none⟩ := by
    rw [Walk.overGroups_of_only g (fun k hk => State.not_tried_of_empty (h.others k hk) _), turn]
    rw [turn]
    exact fun k hk => State.not_tried_of_empty ((h.credit _).others k hk) _
  unfold State.walk
  rw [cap]
  rfl

end

/-! ### The statement -/

/-- The reason of a walk without a grant, by R100's conditions in their order. -/
theorem Walk.reason_cases (w : Walk) (r : Radio) :
    (w.reason r = .searchLimit ∧ w.visits = 0) ∨
    (w.reason r = .noBacklog ∧ w.visits ≠ 0 ∧ ∀ g : GroupIndex, (w.state.radio r).rings[g] = []) ∨
    (w.reason r = .tooShort ∧ w.visits ≠ 0 ∧ w.passedOver = true) ∨
    (w.reason r = .capped ∧ w.visits ≠ 0 ∧ w.passedOver = false ∧
      ∃ g : GroupIndex, (w.state.radio r).rings[g] ≠ []) := by
  unfold Walk.reason
  by_cases spent : w.visits = 0
  · exact .inl ⟨if_pos spent, spent⟩
  rw [if_neg spent]
  by_cases empty : ((List.finRange 4).all fun g => ((w.state.radio r).ring g).isEmpty) = true
  · exact .inr (.inl ⟨if_pos empty, spent, (all_rings_empty_iff _).1 empty⟩)
  rw [if_neg empty]
  by_cases over' : w.passedOver = true
  · exact .inr (.inr (.inl ⟨if_pos over', spent, over'⟩))
  · rw [all_rings_empty_iff, not_forall] at empty
    exact .inr (.inr (.inr ⟨if_neg over', spent, Bool.not_eq_true _ ▸ over', empty⟩))

/-- What a PASS leaves of its walk's radio. -/
theorem State.answerPass_rings (s : State) (r : Radio) (reason : PassReason) :
    ((s.answerPass r reason).radio r).rings = (s.radio r).rings := by
  rw [(s.answered_answerPass r reason).self]

/-- A PASS charges nothing: grants, tag and group counters are those of the search (R86, R100). -/
theorem State.Searched.passed {r : Radio} {s t : State} (h : s.Searched r t) (reason : PassReason) :
    let u := t.answerPass r reason
    (u.radio r).grants = (s.radio r).grants ∧ (u.radio r).nextTag = (s.radio r).nextTag ∧
      (u.radio r).usage = (s.radio r).usage ∧ (u.radio r).borrowed = (s.radio r).borrowed := by
  simp only
  rw [(t.answered_answerPass r reason).self, h.self]
  exact ⟨rfl, rfl, rfl, rfl⟩

/-- After a PASS the tests of a station over the budget read as before it. -/
theorem State.OverBudget.answerPass {s : State} {r : Radio} {offer : Nat} {g : GroupIndex} {i : StationIndex}
    {f : Slot} {pass : PassKind} (h : s.OverBudget r offer g i f pass) (reason : PassReason) :
    (s.answerPass r reason).OverBudget r offer g i f pass where
  member := by
    rw [RadioUnit.ring, State.answerPass_rings]
    exact h.member
  head := by simpa [State.answerPass] using h.head
  kept := by
    have same : (s.answerPass r reason).dropReason r i = s.dropReason r i := by cases r <;> rfl
    rw [same]
    exact h.kept
  deficit := by simpa [State.answerPass] using h.deficit
  exceeds := by
    have budget : (s.answerPass r reason).budget r g pass offer = s.budget r g pass offer := by
      cases pass <;> cases r <;> rfl
    have estimate : (s.answerPass r reason).slotEstimate r i f = s.slotEstimate r i f := by cases r <;> rfl
    rw [budget, estimate]
    exact h.exceeds

/-- A PASS of OFFER and its reason. -/
theorem offerTaken_passed {s : State} {r : Radio} {airtime : BitVec 16} {reason : PassReason}
    (answers : ((offerTaken r airtime s).radio r).port.answers = (s.radio r).port.answers ++ [.pass reason]) :
    (reason = .frozen ∨ reason = .windowFull) ∧ offerTaken r airtime s = s.answerPass r reason ∨
    ∃ w, (s.clearMarks r).walk r (clampOffer airtime) = w ∧ w.grant = none ∧
      Walk.Search r (clampOffer airtime) (s.offerStart r) w ∧ reason = w.reason r ∧
      offerTaken r airtime s = (w.state.clearMarks r).answerPass r reason := by
  have offered := offerTaken_offered r airtime s
  generalize offerTaken r airtime s = t at answers offered ⊢
  cases offered with
  | frozen | windowFull =>
    rw [State.answerPass_answers, List.append_cancel_left_eq] at answers
    cases answers
    simp
  | passed w walk hnone search =>
    have port : ((w.state.clearMarks r).radio r).port = (s.radio r).port := by
      rw [State.clearMarks, State.radio_setRadio_self, search.searched_start.self]
    rw [State.answerPass_answers, port, List.append_cancel_left_eq] at answers
    cases answers
    exact .inr ⟨w, walk, hnone, search, rfl, rfl⟩
  | granted mid v g' room search hnone grants hsome =>
    have port : ((v.state.clearMarks r).radio r).port = (s.radio r).port := by
      rw [State.clearMarks, State.radio_setRadio_self, (grants.walked search.searched_start).self]
    rw [State.answer_answers, port, List.append_cancel_left_eq] at answers
    cases answers

/-- The first part of O46: what the reason of a walk says at its end. -/
theorem passReason_holds {s : State} {r : Radio} {airtime : BitVec 16} {w : Walk}
    (walk : (s.clearMarks r).walk r (clampOffer airtime) = w) (hnone : w.grant = none)
    (search : Walk.Search r (clampOffer airtime) (s.offerStart r) w) :
    let t := (w.state.clearMarks r).answerPass r (w.reason r)
    (w.reason r = .noBacklog → ∀ g : GroupIndex, (t.radio r).rings[g] = []) ∧
    (w.reason r = .capped → (∃ g : GroupIndex, (t.radio r).rings[g] ≠ []) ∧
      ∀ g : GroupIndex, (t.radio r).rings[g] ≠ [] →
        t.capOf r g ≤ (t.radio r).usage[g] ∧ t.profile[g].borrow = false) ∧
    (w.reason r = .tooShort → ∃ (g : GroupIndex) (i : StationIndex) (f : Slot) (pass : PassKind),
      t.OverBudget r (clampOffer airtime) g i f pass) ∧
    (w.reason r = .searchLimit → ((s.clearMarks r).walk r (clampOffer airtime)).visits = 0) := by
  intro t
  have rings : (t.radio r).rings = (w.state.radio r).rings := by
    rw [State.answerPass_rings]
    simp [State.clearMarks]
  rcases w.reason_cases r with
    ⟨eq, spent⟩ | ⟨eq, left, empty⟩ | ⟨eq, left, passed⟩ | ⟨eq, left, noPass, busy⟩
  · simp only [eq, reduceCtorEq, false_implies, true_and, true_implies, walk]
    exact spent
  · simp only [eq, reduceCtorEq, false_implies, and_true, true_implies, rings]
    exact empty
  · simp only [eq, reduceCtorEq, false_implies, and_true, true_and, true_implies]
    obtain ⟨g, i, f, pass, hover⟩ := search.passedOver (fun h => absurd h (by simp [State.offerStart])) passed
    have cleared := hover.of_perm (.clearMarks _) (fun k => by rw [State.clearMarks_ring]) (by simp)
    exact ⟨g, i, f, pass, cleared.answerPass _⟩
  · simp only [eq, reduceCtorEq, false_implies, and_true, true_and, true_implies, rings]
    refine ⟨busy, fun g hg => ?_⟩
    have barred : ∀ pass, ¬ w.state.allows r g pass := fun pass allowed => by
      subst walk
      have start := search.searched.allows.1 allowed
      exact hg (State.walk_empties (State.clearMarks_marks s r) hnone left noPass start)
    have cap : t.capOf r g = w.state.capOf r g := by cases r <;> rfl
    have usage : (t.radio r).usage[g] = (w.state.radio r).usage[g] := by cases r <;> rfl
    have profile : t.profile = w.state.profile := by cases r <;> rfl
    refine ⟨?_, ?_⟩
    · rw [cap, usage]
      exact Nat.not_lt.1 fun h => barred .cap (decide_eq_true h)
    · rw [profile]
      exact Bool.eq_false_iff.2 (barred .borrow)

/-- Settles O46: the invariants of the search (`Walk.Search.passedOver`, `State.walk_empties`), and the two walks
of a station alone (`State.walk_alone_passOver`, `State.walk_alone_credit`). -/
theorem passReasonsHold : Obligations.PassReasonsHold := by
  refine ⟨fun s t r airtime reason hopen e answers => ?_, ?_⟩
  · rw [exec_offer hopen] at e
    cases e
    rcases offerTaken_passed answers with ⟨early, eq⟩ | ⟨w, walk, hnone, search, rfl, eq⟩
    · obtain ⟨grants, nextTag, usage, borrowed⟩ := (State.Searched.refl r s).passed reason
      rw [eq]
      refine ⟨?_, ?_, ?_, ?_, grants, nextTag, usage, borrowed⟩ <;>
        · rintro rfl
          simp at early
    · obtain ⟨noBacklog, capped, tooShort, searchLimit⟩ := passReason_holds walk hnone search
      rw [eq]
      refine ⟨noBacklog, capped, fun h => ?_, searchLimit,
        (search.searched_start.trans (.clearMarks w.state)).passed _⟩
      obtain ⟨g, i, f, pass, hover⟩ := tooShort h
      exact ⟨g, i, f, pass, hover.member, hover.head, (drop_eq ..).trans hover.kept, hover.deficit,
        hover.exceeds⟩
  · intro s r airtime g i f rest hopen hfreeze room marks ring others below queue kept st credit
    have alone : s.Alone r g i f rest := ⟨ring, others, queue, (drop_eq ..).symm.trans kept⟩
    have within : s.withinCap r g = true := decide_eq_true below
    rw [exec_offer hopen, offerTaken_walk hfreeze room, State.clearMarks_of_nil marks]
    refine ⟨fun deficit exceeds => ?_, fun deficit => ?_⟩
    · obtain ⟨v, walk, hnone, passed, left, ring', cleared⟩ :=
        State.walk_alone_passOver (offer := clampOffer airtime) alone marks within deficit exceeds
      have reason : v.reason r = .tooShort := by
        rcases v.reason_cases r with ⟨-, spent⟩ | ⟨-, -, empty⟩ | ⟨eq, -⟩ | ⟨-, -, noPass, -⟩
        · exact absurd spent left
        · exact absurd (ring'.symm.trans (empty g)) (List.cons_ne_nil i [])
        · exact eq
        · simp [passed] at noPass
      rw [walk, Walk.finish, hnone, passed_eq]
      simp only [cleared, reason]
    · have walk := State.walk_alone_credit (offer := clampOffer airtime) alone marks within deficit
      rw [walk, passed_eq, Spec.withStation_eq]
      simp only [Walk.finish]
      rw [State.clearMarks_of_nil (by simpa [State.credit] using marks)]
      rfl

end Sys2Proof.Machine
end

section
/-! Request records (chapter 11): what the fields of a word read, and that decoding inverts encoding. -/

namespace Sys2Proof

open Machine

/-! ### The fields of a concatenation -/

theorem extract_lowest {w v start : Nat} (high : BitVec w) (f : BitVec v) (at0 : start = 0) :
    (high ++ f).extractLsb' start v = f := by
  subst at0
  rw [BitVec.extractLsb'_append_eq_of_add_le (by omega), BitVec.extractLsb'_eq_self]

theorem extract_above {w v start len : Nat} (high : BitVec w) (low : BitVec v) (above : v ≤ start) :
    (high ++ low).extractLsb' start len = high.extractLsb' (start - v) len :=
  BitVec.extractLsb'_append_eq_of_le above

theorem extract_whole {v start : Nat} (f : BitVec v) (at0 : start = 0) : f.extractLsb' start v = f := by
  subst at0
  exact BitVec.extractLsb'_eq_self

theorem getLsbD_above {w v n : Nat} (high : BitVec w) (low : BitVec v) (above : v ≤ n) :
    (high ++ low).getLsbD n = high.getLsbD (n - v) := by
  rw [BitVec.getLsbD_append, if_neg (by omega)]

theorem getLsbD_flag {w n : Nat} (high : BitVec w) (b : Bool) (at0 : n = 0) :
    (high ++ flagBit b).getLsbD n = b := by
  subst at0
  rw [BitVec.getLsbD_append, if_pos Nat.one_pos]
  cases b <;> rfl

theorem field_toNat {w n : Nat} (fits : n < 2 ^ w) : (field w n).toNat = n := by
  rw [field, BitVec.toNat_ofNat, Nat.mod_eq_of_lt fits]

theorem bits_header_kind (kind code : Byte) (count : Nat) : bits (headerWord kind count code) 24 8 = kind := by
  simp (disch := decide) only [bits, headerWord, extract_above, extract_whole, -Nat.reduceAdd]

theorem bits_header_count (kind code : Byte) {count : Nat} (fits : count < 256) :
    (bits (headerWord kind count code) 16 8).toNat = count := by
  have read : bits (headerWord kind count code) 16 8 = field 8 count := by
    simp (disch := decide) only [bits, headerWord, extract_above, extract_lowest, -Nat.reduceAdd]
  rw [read, field_toNat fits]

theorem bits_indexWord (index : BitVec 16) : bits (indexWord index) 0 16 = index := by
  simp (disch := decide) only [bits, indexWord, extract_lowest]

theorem groupBlockOf_record (b : GroupBlock) :
    groupBlockOf (b.roleHigh ++ b.roleLow ++ b.ssidSet)
      (0#8 ++ b.releaseCount ++ 0#4 ++ b.retryLimit ++ 0#5 ++ flagBit b.borrow ++ flagBit b.closed ++
        flagBit b.selector) (b.ceiling ++ b.quantum) (b.cap ++ b.holdTime) (b.queueLimit ++ b.lifetime) = b := by
  simp (disch := decide) only [groupBlockOf, bits, bitAt, extract_above, extract_lowest, extract_whole,
    getLsbD_above, getLsbD_flag, -Nat.reduceAdd]

theorem radioBlockOf_record (b : RadioBlock) :
    radioBlockOf b.epochLength (0#8 ++ b.frameOverhead ++ b.ppduOverhead) (b.defaultRate ++ b.grantTimeout) =
      b := by
  simp (disch := decide) only [radioBlockOf, bits, extract_above, extract_lowest, extract_whole, -Nat.reduceAdd]

theorem deviceBlockOf_record (b : DeviceBlock) :
    deviceBlockOf (b.watermark ++ b.poolReserve) (0#14 ++ b.freezeMode ++ b.settleTime) = b := by
  simp (disch := decide) only [deviceBlockOf, bits, extract_above, extract_lowest, extract_whole, -Nat.reduceAdd]

/-! ### The command of a framed record -/

/-- The request that a kind and a body spell on a link, if they spell one. -/
def decodeBody (l : Link) (kind : Byte) (body : List Word) : Option Instr :=
  match l with
  | .control => decodeControl kind body
  | .radio r => decodeRadio r kind body

theorem decodeRecord_cons (l : Link) (header : Word) (body : List Word) :
    decodeRecord l (header :: body) =
      if (bits header 16 8).toNat = body.length + 1 then
        (decodeBody l (bits header 24 8) body).getD (.malformedRecord l (bits header 24 8))
      else .malformedRecord l (bits header 24 8) := by
  cases l <;> rfl

theorem decodeRecord_requestRecord {l : Link} {kind : Byte} {body : List Word} {i : Instr}
    (fits : body.length < 255) (spelt : decodeBody l kind body = some i) :
    decodeRecord l (requestRecord kind body) = i := by
  rw [requestRecord, recordWords, decodeRecord_cons, bits_header_count kind 0 (by omega), if_pos rfl,
    bits_header_kind, spelt, Option.getD_some]

/-! ### The two lists -/

theorem entriesOf_entryWords (entries : List QueueEntry) :
    entriesOf (entries.flatMap entryWords) = some entries := by
  induction entries with
  | nil => rfl
  | cons e entries ih =>
    have length : bits (0#16 ++ e.length) 0 16 = e.length := extract_lowest _ _ rfl
    show (entriesOf (entries.flatMap entryWords)).map (⟨e.handle, bits (0#16 ++ e.length) 0 16⟩ :: ·) = _
    rw [ih, length]
    rfl

theorem length_entryWords (entries : List QueueEntry) :
    (entries.flatMap entryWords).length = 2 * entries.length := by
  induction entries with
  | nil => rfl
  | cons e entries ih =>
    rw [List.flatMap_cons, List.length_append, ih, List.length_cons]
    show 2 + 2 * entries.length = _
    omega

theorem decodeQueue_encoded (index : BitVec 16) {entries : List QueueEntry} (fits : entries.length < 256) :
    decodeQueue ((0#8 ++ field 8 entries.length ++ index) :: entries.flatMap entryWords) =
      some (.queue index entries) := by
  have count : bits (0#8 ++ field 8 entries.length ++ index) 16 8 = field 8 entries.length := by
    simp (disch := decide) only [bits, extract_above, extract_lowest, -Nat.reduceAdd]
  have named : bits (0#8 ++ field 8 entries.length ++ index) 0 16 = index := extract_lowest _ _ rfl
  rw [decodeQueue, entriesOf_entryWords, count, named, field_toNat fits]
  exact if_pos rfl

/-! ### Packed fields -/

theorem packFields_cons {w : Nat} (f : BitVec w) (fields : List (BitVec w)) :
    packFields (f :: fields) = f.toNat + 2 ^ w * packFields fields := rfl

theorem packFields_digit {w : Nat} (fields : List (BitVec w)) (k : Nat) :
    packFields fields / 2 ^ (w * k) % 2 ^ w = (fields.getD k 0).toNat := by
  induction fields generalizing k with
  | nil => simp [packFields]
  | cons f fields ih =>
    rw [packFields_cons]
    cases k with
    | zero =>
      rw [Nat.mul_zero, Nat.pow_zero, Nat.div_one, Nat.add_mul_mod_self_left]
      exact Nat.mod_eq_of_lt f.isLt
    | succ k =>
      rw [Nat.mul_succ, Nat.add_comm (w * k), Nat.pow_add, ← Nat.div_div_eq_div_mul,
        Nat.add_mul_div_left _ _ (Nat.two_pow_pos w), Nat.div_eq_of_lt f.isLt, Nat.zero_add, ih,
        List.getD_cons_succ]

/-- A field of a packed word, within its 32 bits. -/
theorem bits_packFields {w : Nat} (fields : List (BitVec w)) {k : Nat} (inside : w * k + w ≤ 32) :
    bits (field 32 (packFields fields)) (w * k) w = fields.getD k 0 := by
  apply BitVec.eq_of_toNat_eq
  rw [← packFields_digit fields k]
  simp only [bits, field, BitVec.extractLsb'_toNat, BitVec.toNat_ofNat, Nat.shiftRight_eq_div_pow]
  have split : 32 = w * k + (32 - w * k) := by omega
  have finer : 2 ^ w ∣ 2 ^ (32 - w * k) := Nat.pow_dvd_pow 2 (by omega)
  conv_lhs => rw [split, Nat.pow_add, Nat.mod_mul_right_div_self, Nat.mod_mod_of_dvd _ finer]

theorem packWords_nil {w : Nat} {n : Nat} (positive : 0 < n) : packWords n ([] : List (BitVec w)) = [] := by
  have zero : divUp 0 n = 0 := Nat.div_eq_of_lt (by omega)
  simp [packWords, zero]

theorem packWords_of_ne_nil {w n : Nat} {fields : List (BitVec w)} (positive : 0 < n) (nonempty : fields ≠ []) :
    packWords n fields = field 32 (packFields (fields.take n)) :: packWords n (fields.drop n) := by
  have length := List.length_pos_iff.2 nonempty
  have count : divUp fields.length n = divUp (fields.drop n).length n + 1 := by
    rw [List.length_drop, divUp, divUp]
    rcases Nat.lt_or_ge fields.length n with short | long
    · rw [Nat.sub_eq_zero_of_le short.le, Nat.div_eq_of_lt (show 0 + (n - 1) < n by omega)]
      exact Nat.div_eq_of_lt_le (by omega) (by omega)
    · rw [← Nat.add_div_right _ positive]
      congr 1
      omega
  rw [packWords, packWords, count, List.range_succ_eq_map, List.map_cons, List.map_map]
  congr 1
  exact List.map_congr_left fun k _ => by
    rw [Function.comp, List.drop_drop, Nat.mul_succ, Nat.add_comm]

theorem length_packWords {w : Nat} (n : Nat) (fields : List (BitVec w)) :
    (packWords n fields).length = divUp fields.length n := by
  simp [packWords]

/-- The fields of a packed outcome word are its outcomes, padded with zeros. -/
theorem outcomeFields_packFields {outcomes : List (BitVec 2)} (fits : outcomes.length ≤ 16) :
    outcomeFields (field 32 (packFields outcomes)) =
      outcomes ++ List.replicate (16 - outcomes.length) 0 := by
  apply List.ext_getElem
  · simp [outcomeFields]; omega
  · intro k hk _
    have inside : k < 16 := by simpa [outcomeFields] using hk
    have read := bits_packFields outcomes (k := k) (by omega)
    rw [List.getElem_append]
    simp only [outcomeFields, List.getElem_map, List.getElem_range, read, List.getElem_replicate]
    split
    case isTrue short => exact List.getD_eq_getElem _ _ short
    case isFalse long => exact List.getD_eq_default _ _ (by omega)

theorem take_outcomeFields_packWords (outcomes : List (BitVec 2)) :
    ((packWords 16 outcomes).flatMap outcomeFields).take outcomes.length = outcomes := by
  rcases eq_or_ne outcomes [] with rfl | nonempty
  · rfl
  · rw [packWords_of_ne_nil (by decide) nonempty, List.flatMap_cons,
      outcomeFields_packFields (List.length_take_le 16 outcomes), List.length_take]
    rcases Nat.lt_or_ge outcomes.length 16 with short | long
    · rw [List.take_of_length_le short.le, List.append_assoc, List.take_left']
      rfl
    · have ih := take_outcomeFields_packWords (outcomes.drop 16)
      rw [Nat.min_eq_left long, Nat.sub_self, List.replicate_zero, List.append_nil, List.take_append,
        List.length_take, Nat.min_eq_left long, List.take_of_length_le (by simp)]
      rw [List.length_drop] at ih
      rw [ih, List.take_append_drop]
termination_by outcomes.length
decreasing_by
  have := List.length_pos_iff.2 nonempty
  rw [List.length_drop]
  omega

theorem decodeReport_encoded (r : Radio) (tag : Byte) (airtime rate : BitVec 16) {outcomes : List (BitVec 2)}
    (fits : outcomes.length < 128) :
    decodeReport r ((0#9 ++ field 7 outcomes.length ++ 0#8 ++ tag) :: (rate ++ airtime) ::
      packWords 16 outcomes) = some (.report r tag airtime rate outcomes) := by
  simp (disch := decide) only [decodeReport, bits, extract_above, extract_lowest, extract_whole,
    length_packWords, field_toNat (w := 7) fits, take_outcomeFields_packWords, if_true, -Nat.reduceAdd]

/-! ### Decoding inverts encoding -/

/-- A request of fixed length: that its body is short enough is checked by evaluation. -/
theorem decodeRecord_shortRecord {l : Link} {kind : Byte} {body : List Word} {i : Instr}
    (fits : decide (body.length < 255) = true) (spelt : decodeBody l kind body = some i) :
    decodeRecord l (requestRecord kind body) = i :=
  decodeRecord_requestRecord (of_decide_eq_true fits) spelt

theorem decodeRecord_indexRecord {kind : Byte} {f : BitVec 16 → Instr} (index : BitVec 16)
    (spelt : decodeControl kind [indexWord index] = some (f (bits (indexWord index) 0 16))) :
    decodeRecord .control (requestRecord kind [indexWord index]) = f index :=
  decodeRecord_shortRecord rfl (by rw [bits_indexWord] at spelt; exact spelt)

theorem decodeRecord_encodeRequest_control {i : Instr} (sent : requestLink i = some .control)
    (fits : i.wellFormed = true) : decodeRecord .control (encodeRequest i) = i := by
  cases i
  case dismiss | rematch | pin | unpin | stationRead | purge => exact decodeRecord_indexRecord _ rfl
  case profileSave | profileRestore | deviceRead | eventRead | deviceReset =>
    exact decodeRecord_shortRecord rfl rfl
  case queue index entries =>
    have count : entries.length ≤ 126 := of_decide_eq_true fits
    have length := length_entryWords entries
    refine decodeRecord_requestRecord ?_ (decodeQueue_encoded index (by omega))
    rw [List.length_cons]
    omega
  case groupSet group block =>
    refine decodeRecord_shortRecord rfl (congrArg some (congrArg₂ Instr.groupSet ?_ (groupBlockOf_record block)))
    exact extract_lowest _ _ rfl
  case radioSet radio block =>
    refine decodeRecord_shortRecord rfl (congrArg some (congrArg₂ Instr.radioSet ?_ (radioBlockOf_record block)))
    exact extract_lowest _ _ rfl
  case deviceSet block =>
    exact decodeRecord_shortRecord rfl (congrArg some (congrArg Instr.deviceSet (deviceBlockOf_record block)))
  case collect | groupRead | radioRead | eventClear | eventForce | eventMask =>
    exact decodeRecord_shortRecord rfl (congrArg some (congrArg _ (extract_lowest _ _ rfl)))
  case admitStation | tune | stationScan | steer =>
    refine decodeRecord_shortRecord rfl (congrArg some ?_)
    simp (disch := decide) only [bits, bitAt, extract_above, extract_lowest, extract_whole, getLsbD_above,
      getLsbD_flag, -Nat.reduceAdd]
  all_goals exact nomatch sent

theorem decodeRecord_encodeRequest_radio {i : Instr} {r : Radio} (sent : requestLink i = some (.radio r))
    (fits : i.wellFormed = true) : decodeRecord (.radio r) (encodeRequest i) = i := by
  cases i
  case linkStart q =>
    cases sent
    exact decodeRecord_shortRecord rfl rfl
  case offer q airtime =>
    cases sent
    exact decodeRecord_shortRecord rfl (congrArg some (congrArg _ (extract_lowest _ _ rfl)))
  case report q tag airtime rate outcomes =>
    cases sent
    have count : outcomes.length ≤ 127 := of_decide_eq_true fits
    refine decodeRecord_requestRecord ?_ (decodeReport_encoded r tag airtime rate (by omega))
    rw [List.length_cons, List.length_cons, length_packWords, divUp]
    omega
  case withdraw q tag =>
    cases sent
    exact decodeRecord_shortRecord rfl (congrArg some (congrArg _ (extract_lowest _ _ rfl)))
  case note q index power rate =>
    cases sent
    refine decodeRecord_shortRecord rfl (congrArg some ?_)
    simp (disch := decide) only [bits, extract_above, extract_lowest, -Nat.reduceAdd]
  all_goals exact nomatch sent

/-- Settles O57: per kind, each field of the record reads its operand back; the two lists by induction. -/
theorem decodeInvertsEncode : Obligations.DecodeInvertsEncode := by
  intro i l sent fits
  cases l with
  | control => exact decodeRecord_encodeRequest_control sent fits
  | radio r => exact decodeRecord_encodeRequest_radio sent fits

end Sys2Proof
end

section
/-! The checks of a framed record (R161, R183): which bodies each kind takes. -/

namespace Sys2Proof

open Machine

/-! ### Bodies of a fixed number of words -/

theorem body0_isSome (i : Instr) (body : List Word) : (body0 i body).isSome ↔ body.length = 0 := by
  match body with
  | [] => simp [body0]
  | _ :: _ => simp [body0]

theorem body1_isSome (f : Word → Instr) (body : List Word) : (body1 f body).isSome ↔ body.length = 1 := by
  match body with
  | [] => simp [body1]
  | [_] => simp [body1]
  | _ :: _ :: _ => simp [body1]

theorem body2_isSome (f : Word → Word → Instr) (body : List Word) :
    (body2 f body).isSome ↔ body.length = 2 := by
  match body with
  | [] => simp [body2]
  | [_] => simp [body2]
  | [_, _] => simp [body2]
  | _ :: _ :: _ :: _ => simp [body2]

/-! ### The lists -/

theorem entriesOf_length (words : List Word) :
    (entriesOf words = none ∧ words.length % 2 = 1) ∨
      ∃ entries, entriesOf words = some entries ∧ words.length = 2 * entries.length := by
  match words with
  | [] => exact .inr ⟨[], rfl, rfl⟩
  | [_] => exact .inl ⟨rfl, rfl⟩
  | h :: l :: rest =>
    simp only [entriesOf, List.length_cons]
    rcases entriesOf_length rest with ⟨odd, length⟩ | ⟨entries, read, length⟩
    · exact .inl ⟨by rw [odd]; rfl, by omega⟩
    · exact .inr ⟨_, by rw [read]; rfl, by rw [List.length_cons]; omega⟩

theorem decodeQueue_isSome (body : List Word) :
    (decodeQueue body).isSome ↔
      ∃ w rest, body = w :: rest ∧ body.length = 1 + 2 * (w.extractLsb' 16 8).toNat := by
  cases body with
  | nil => simp [decodeQueue]
  | cons w rest =>
    simp only [decodeQueue, List.length_cons]
    rcases entriesOf_length rest with ⟨read, length⟩ | ⟨entries, read, length⟩
    · simp only [read, Option.isSome_none, Bool.false_eq_true, false_iff]
      rintro ⟨_, _, ⟨⟩, count⟩
      omega
    · simp only [read]
      constructor
      · intro h
        refine ⟨w, rest, rfl, ?_⟩
        split at h
        case isTrue count =>
          unfold bits at count
          omega
        case isFalse => exact absurd h Bool.false_ne_true
      · rintro ⟨_, _, ⟨⟩, count⟩
        rw [if_pos (by unfold bits; omega)]
        rfl

theorem decodeReport_isSome (r : Radio) (body : List Word) :
    (decodeReport r body).isSome ↔
      ∃ w rest, body = w :: rest ∧ body.length = 2 + divUp (w.extractLsb' 16 7).toNat 16 := by
  match body with
  | [] => simp [decodeReport]
  | [_] =>
    simp only [decodeReport, Option.isSome_none, Bool.false_eq_true, false_iff]
    rintro ⟨_, _, ⟨⟩, count⟩
    rw [List.length_singleton] at count
    omega
  | w :: x :: rest =>
    simp only [decodeReport, List.length_cons]
    constructor
    · intro h
      refine ⟨w, _, rfl, ?_⟩
      split at h
      case isTrue count =>
        unfold bits at count
        omega
      case isFalse => exact absurd h Bool.false_ne_true
    · rintro ⟨_, _, ⟨⟩, count⟩
      rw [if_pos (by unfold bits; omega)]
      rfl

/-! ### The kinds of each link -/

theorem decodeControl_of_not_kind {kind : Byte} (other : isRequestKind .control kind = false)
    (body : List Word) : decodeControl kind body = none := by
  have range : ¬ (1 ≤ kind.toNat ∧ kind.toNat ≤ 0x19) := by simpa [isRequestKind] using other
  unfold decodeControl
  split
  case h_26 => rfl
  all_goals omega

theorem decodeRadio_of_not_kind {kind : Byte} {r : Radio} (other : isRequestKind (.radio r) kind = false)
    (body : List Word) : decodeRadio r kind body = none := by
  have range : ¬ (0x40 ≤ kind.toNat ∧ kind.toNat ≤ 0x44) := by simpa [isRequestKind] using other
  unfold decodeRadio
  split
  case h_6 => rfl
  all_goals omega

theorem body0_fixed {n : Nat} (i : Instr) (body : List Word) (fixed : some 1 = some n) :
    (body0 i body).isSome ↔ body.length + 1 = n := by
  cases fixed
  rw [body0_isSome]
  omega

theorem body1_fixed {n : Nat} (f : Word → Instr) (body : List Word) (fixed : some 2 = some n) :
    (body1 f body).isSome ↔ body.length + 1 = n := by
  cases fixed
  rw [body1_isSome]
  omega

theorem body2_fixed {n : Nat} (f : Word → Word → Instr) (body : List Word) (fixed : some 3 = some n) :
    (body2 f body).isSome ↔ body.length + 1 = n := by
  cases fixed
  rw [body2_isSome]
  omega

theorem isRequestKind_of_fixed {l : Link} {kind : Byte} {n : Nat}
    (fixed : Spec.fixedWords l kind.toNat = some n) : isRequestKind l kind = true := by
  unfold Spec.fixedWords at fixed
  split at fixed
  case h_29 => exact nomatch fixed
  all_goals
    rename_i number
    simp [isRequestKind, number]

theorem decodeControl_fixed {kind : Byte} {n : Nat} (fixed : Spec.fixedWords .control kind.toNat = some n)
    (body : List Word) : (decodeControl kind body).isSome ↔ body.length + 1 = n := by
  obtain ⟨low, high⟩ := (isRequestKind_control_iff kind).1 (isRequestKind_of_fixed fixed)
  unfold decodeControl
  split
  case h_26 =>
    generalize kind.toNat = k at *
    interval_cases k <;> contradiction
  all_goals
    rename_i number
    rw [number] at fixed
  case h_3 => exact nomatch fixed
  case h_14 | h_15 | h_19 | h_21 | h_25 => exact body0_fixed _ body fixed
  case h_1 | h_18 => exact body2_fixed _ body fixed
  case h_12 =>
    cases fixed
    split
    case h_1 => exact iff_of_true rfl rfl
    case h_2 other =>
      refine iff_of_false Bool.false_ne_true fun length => ?_
      match body, length with
      | [_, _, _, _, _, _], _ => exact other _ _ _ _ _ _ rfl
  case h_16 =>
    cases fixed
    split
    case h_1 => exact iff_of_true rfl rfl
    case h_2 other =>
      refine iff_of_false Bool.false_ne_true fun length => ?_
      match body, length with
      | [_, _, _, _], _ => exact other _ _ _ _ rfl
  all_goals exact body1_fixed _ body fixed

/-- A kind of fixed length spells a request exactly for a body of that length. -/
theorem decodeBody_fixed {l : Link} {kind : Byte} {n : Nat} (fixed : Spec.fixedWords l kind.toNat = some n)
    (body : List Word) : (decodeBody l kind body).isSome ↔ body.length + 1 = n := by
  cases l with
  | control => exact decodeControl_fixed fixed body
  | radio r =>
    obtain ⟨low, high⟩ := (isRequestKind_radio_iff r kind).1 (isRequestKind_of_fixed fixed)
    unfold decodeBody decodeRadio
    dsimp only
    split
    case h_6 =>
      generalize kind.toNat = k at *
      interval_cases k <;> contradiction
    all_goals
      rename_i number
      rw [number] at fixed
    case h_1 => exact body0_fixed _ body fixed
    case h_2 | h_4 => exact body1_fixed _ body fixed
    case h_3 => exact nomatch fixed
    case h_5 => exact body2_fixed _ body fixed

/-! ### What is spelt is a request of the link -/

theorem body0_spells {i j : Instr} {body : List Word} (h : body0 i body = some j) : j = i := by
  match body with
  | [] => exact (Option.some.inj h).symm
  | _ :: _ => exact nomatch h

theorem body1_spells {f : Word → Instr} {j : Instr} {body : List Word} (h : body1 f body = some j) :
    ∃ w, j = f w := by
  match body with
  | [w] => exact ⟨w, (Option.some.inj h).symm⟩
  | [] => exact nomatch h
  | _ :: _ :: _ => exact nomatch h

theorem body2_spells {f : Word → Word → Instr} {j : Instr} {body : List Word} (h : body2 f body = some j) :
    ∃ w x, j = f w x := by
  match body with
  | [w, x] => exact ⟨w, x, (Option.some.inj h).symm⟩
  | [] => exact nomatch h
  | [_] => exact nomatch h
  | _ :: _ :: _ :: _ => exact nomatch h

theorem decodeQueue_spells {i : Instr} {body : List Word} (h : decodeQueue body = some i) :
    ∃ index entries, i = .queue index entries := by
  cases body with
  | nil => exact nomatch h
  | cons w rest =>
    unfold decodeQueue at h
    dsimp only at h
    split at h
    case h_1 =>
      split at h
      case isTrue => exact ⟨_, _, (Option.some.inj h).symm⟩
      case isFalse => exact nomatch h
    case h_2 => exact nomatch h

theorem decodeReport_spells {r : Radio} {i : Instr} {body : List Word} (h : decodeReport r body = some i) :
    ∃ tag airtime rate outcomes, i = .report r tag airtime rate outcomes := by
  match body with
  | [] => exact nomatch h
  | [_] => exact nomatch h
  | w :: x :: rest =>
    unfold decodeReport at h
    dsimp only at h
    split at h
    case isTrue => exact ⟨_, _, _, _, (Option.some.inj h).symm⟩
    case isFalse => exact nomatch h

theorem decodeControl_spells {kind : Byte} {body : List Word} {i : Instr} (h : decodeControl kind body = some i) :
    requestLink i = some .control := by
  unfold decodeControl at h
  split at h
  case h_3 => obtain ⟨_, _, rfl⟩ := decodeQueue_spells h; rfl
  case h_12 | h_16 =>
    split at h
    case h_1 => cases h; rfl
    case h_2 => exact nomatch h
  case h_14 | h_15 | h_19 | h_21 | h_25 => cases body0_spells h; rfl
  case h_1 | h_18 => obtain ⟨_, _, rfl⟩ := body2_spells h; rfl
  case h_26 => exact nomatch h
  all_goals obtain ⟨_, rfl⟩ := body1_spells h; rfl

theorem decodeRadio_spells {r : Radio} {kind : Byte} {body : List Word} {i : Instr}
    (h : decodeRadio r kind body = some i) : requestLink i = some (.radio r) := by
  unfold decodeRadio at h
  split at h
  case h_1 => cases body0_spells h; rfl
  case h_2 | h_4 => obtain ⟨_, rfl⟩ := body1_spells h; rfl
  case h_3 => obtain ⟨_, _, _, _, rfl⟩ := decodeReport_spells h; rfl
  case h_5 => obtain ⟨_, _, rfl⟩ := body2_spells h; rfl
  case h_6 => exact nomatch h

theorem decodeBody_spells {l : Link} {kind : Byte} {body : List Word} {i : Instr}
    (h : decodeBody l kind body = some i) : requestLink i = some l := by
  cases l with
  | control => exact decodeControl_spells h
  | radio r => exact decodeRadio_spells h

/-! ### The checks -/

theorem decodeRecord_ne_malformed_iff (l : Link) (h : Word) (body : List Word) :
    decodeRecord l (h :: body) ≠ .malformedRecord l (bits h 24 8) ↔
      (bits h 16 8).toNat = body.length + 1 ∧ (decodeBody l (bits h 24 8) body).isSome := by
  rw [decodeRecord_cons]
  by_cases count : (bits h 16 8).toNat = body.length + 1
  · rw [if_pos count]
    cases spelt : decodeBody l (bits h 24 8) body with
    | none => simp
    | some i =>
      refine iff_of_true ?_ ⟨count, rfl⟩
      rintro rfl
      exact nomatch decodeBody_spells spelt
  · rw [if_neg count]
    exact iff_of_false (fun h => h rfl) fun h => count h.1

theorem decodeBody_of_not_kind {l : Link} {kind : Byte} (other : isRequestKind l kind = false)
    (body : List Word) : decodeBody l kind body = none := by
  cases l with
  | control => exact decodeControl_of_not_kind other body
  | radio r => exact decodeRadio_of_not_kind other body

/-- Settles O59: a record is well formed exactly where its count matches and its body spells a request, which
`decodeBody_fixed`, `decodeQueue_isSome` and `decodeReport_isSome` say for each shape of body. -/
theorem recordChecks : Obligations.RecordChecks := by
  intro l
  refine ⟨rfl, fun h body => ?_⟩
  have checks := decodeRecord_ne_malformed_iff l h body
  unfold bits at checks
  refine ⟨fun count => ?_, fun other => ?_, fun n fixed => ?_, fun control kind => ?_, fun r radio kind => ?_⟩
  · exact not_not.1 fun spelt => count (checks.1 spelt).1
  · refine not_not.1 fun spelt => ?_
    have request := (checks.1 spelt).2
    rw [decodeBody_of_not_kind other] at request
    exact absurd request Bool.false_ne_true
  · rw [checks, decodeBody_fixed fixed]
    exact and_congr_right fun count => by rw [count]
  · subst control
    rw [checks, kind]
    refine and_congr_right fun count => (decodeQueue_isSome body).trans ?_
    rw [count]
    exact exists_congr fun w => exists_congr fun rest => and_congr_right fun _ => by omega
  · subst radio
    rw [checks, kind]
    refine and_congr_right fun count => (decodeReport_isSome r body).trans ?_
    rw [count]
    exact exists_congr fun w => exists_congr fun rest => and_congr_right fun _ => by omega

end Sys2Proof
end

section
/-! Reserved bits are ignored (R190): a request reads the named bits of its body words and no others. -/

namespace Sys2Proof

open Machine

/-! ### Fields within a mask -/

/-- Two words agree in the bits of a mask. -/
def AgreeOn (m x w : Word) : Prop := x &&& m = w &&& m

theorem bits_of_agree {m x w : Word} {start len : Nat} (agree : AgreeOn m x w)
    (inside : m.extractLsb' start len = BitVec.allOnes len) : bits x start len = bits w start len := by
  have read : ∀ v : Word, (v &&& m).extractLsb' start len = bits v start len := fun v => by
    rw [BitVec.extractLsb'_and, inside, BitVec.and_allOnes, bits]
  rw [← read x, ← read w, agree]

theorem bitAt_of_agree {m x w : Word} {n : Nat} (agree : AgreeOn m x w) (inside : m.getLsbD n = true) :
    bitAt x n = bitAt w n := by
  have read : ∀ v : Word, (v &&& m).getLsbD n = bitAt v n := fun v => by
    rw [BitVec.getLsbD_and, inside, Bool.and_true, bitAt]
  rw [← read x, ← read w, agree]

theorem eq_of_agree {x w : Word} (agree : AgreeOn 0xFFFFFFFF x w) : x = w := by
  have all : (0xFFFFFFFF : Word) = BitVec.allOnes 32 := rfl
  rwa [AgreeOn, all, BitVec.and_allOnes, BitVec.and_allOnes] at agree

/-! ### Bodies that agree in their named bits -/

/-- Two bodies of one length that agree, word by word, in the bits of a mask for each word. -/
def BodiesAgree (mask : Nat → Word) (other body : List Word) : Prop :=
  other.length = body.length ∧ ∀ k < body.length, AgreeOn (mask k) (other.getD k 0) (body.getD k 0)

theorem BodiesAgree.tail {mask : Nat → Word} {x w : Word} {other body : List Word}
    (h : BodiesAgree mask (x :: other) (w :: body)) : BodiesAgree (fun k => mask (k + 1)) other body :=
  ⟨Nat.succ.inj h.1, fun k hk => h.2 (k + 1) (Nat.succ_lt_succ hk)⟩

theorem BodiesAgree.head {mask : Nat → Word} {x w : Word} {other body : List Word}
    (h : BodiesAgree mask (x :: other) (w :: body)) : AgreeOn (mask 0) x w :=
  h.2 0 (Nat.succ_pos _)

theorem BodiesAgree.nil {mask : Nat → Word} {other : List Word} (h : BodiesAgree mask other []) : other = [] :=
  List.length_eq_zero_iff.1 h.1

theorem BodiesAgree.cons {mask : Nat → Word} {w : Word} {other body : List Word}
    (h : BodiesAgree mask other (w :: body)) : ∃ x rest, other = x :: rest :=
  List.exists_cons_of_length_eq_add_one h.1

theorem body0_of_agree {mask : Nat → Word} {other body : List Word} (i : Instr)
    (h : BodiesAgree mask other body) : body0 i other = body0 i body := by
  cases body with
  | nil => rw [h.nil]
  | cons w body => obtain ⟨x, rest, rfl⟩ := h.cons; rfl

theorem body1_of_agree {mask : Nat → Word} {other body : List Word} {f : Word → Instr}
    (h : BodiesAgree mask other body) (reads : ∀ x w, AgreeOn (mask 0) x w → f x = f w) :
    body1 f other = body1 f body := by
  match body with
  | [] => rw [h.nil]
  | [w] =>
    obtain ⟨x, rest, rfl⟩ := h.cons
    cases h.tail.nil
    exact congrArg some (reads x w h.head)
  | w :: v :: body =>
    obtain ⟨x, rest, rfl⟩ := h.cons
    obtain ⟨y, rest, rfl⟩ := h.tail.cons
    rfl

theorem body2_of_agree {mask : Nat → Word} {other body : List Word} {f : Word → Word → Instr}
    (h : BodiesAgree mask other body)
    (reads : ∀ x w y v, AgreeOn (mask 0) x w → AgreeOn (mask 1) y v → f x y = f w v) :
    body2 f other = body2 f body := by
  match body with
  | [] => rw [h.nil]
  | [w] =>
    obtain ⟨x, rest, rfl⟩ := h.cons
    cases h.tail.nil
    rfl
  | [w, v] =>
    obtain ⟨x, rest, rfl⟩ := h.cons
    obtain ⟨y, rest, rfl⟩ := h.tail.cons
    cases h.tail.tail.nil
    exact congrArg some (reads x w y v h.head h.tail.head)
  | w :: v :: u :: body =>
    obtain ⟨x, rest, rfl⟩ := h.cons
    obtain ⟨y, rest, rfl⟩ := h.tail.cons
    obtain ⟨z, rest, rfl⟩ := h.tail.tail.cons
    rfl

/-! ### The lists -/

/-- The mask of the words of the entries: a whole handle, then a length. -/
def entryMask (k : Nat) : Word := if k % 2 = 0 then 0xFFFFFFFF else 0x0000FFFF

theorem entriesOf_of_agree (other body : List Word) (h : BodiesAgree entryMask other body) :
    entriesOf other = entriesOf body := by
  match body with
  | [] => rw [h.nil]
  | [w] =>
    obtain ⟨x, rest, rfl⟩ := h.cons
    cases h.tail.nil
    rfl
  | w :: v :: body =>
    obtain ⟨x, rest, rfl⟩ := h.cons
    obtain ⟨y, rest, rfl⟩ := h.tail.cons
    have later : BodiesAgree entryMask rest body := by
      obtain ⟨length, agree⟩ := h.tail.tail
      refine ⟨length, fun k hk => ?_⟩
      have period : entryMask (k + 1 + 1) = entryMask k := by
        rw [entryMask, entryMask, show (k + 1 + 1) % 2 = k % 2 by omega]
      exact period ▸ agree k hk
    have handle : x = w := eq_of_agree h.head
    have length : bits y 0 16 = bits v 0 16 := bits_of_agree h.tail.head rfl
    rw [entriesOf, entriesOf, entriesOf_of_agree rest body later, handle, length]

theorem decodeQueue_of_agree {n : Nat} {other body : List Word}
    (h : BodiesAgree (Spec.named .control 0x03 n) other body) : decodeQueue other = decodeQueue body := by
  cases body with
  | nil => rw [h.nil]
  | cons w body =>
    obtain ⟨x, rest, rfl⟩ := h.cons
    have head : AgreeOn 0x00FFFFFF x w := h.head
    have count : bits x 16 8 = bits w 16 8 := bits_of_agree head rfl
    have index : bits x 0 16 = bits w 0 16 := bits_of_agree head rfl
    rw [decodeQueue, decodeQueue, entriesOf_of_agree rest body h.tail, count, index]

/-- The mask of the outcome words of a REPORT: two bits for each outcome that its count names. -/
def outcomeMask (n k : Nat) : Word := BitVec.ofNat 32 (2 ^ (2 * min 16 (n - 16 * k)) - 1)

theorem extract_lowMask {start len upTo : Nat} (inside : start + len ≤ upTo) (word : upTo ≤ 32) :
    (BitVec.ofNat 32 (2 ^ upTo - 1)).extractLsb' start len = BitVec.allOnes len := by
  ext k hk
  have below : start + k < upTo := by omega
  simp only [BitVec.getElem_extractLsb', BitVec.getLsbD_ofNat, Nat.testBit_two_pow_sub_one, below,
    BitVec.getElem_allOnes, decide_true, Bool.and_true, decide_eq_true_eq]
  omega

/-- The outcome fields up to the count agree word by word, so do those of the whole list. -/
theorem take_outcomeFields_of_agree (n : Nat) (other body : List Word) (h : BodiesAgree (outcomeMask n) other body) :
    (other.flatMap outcomeFields).take n = (body.flatMap outcomeFields).take n := by
  induction body generalizing n other with
  | nil => rw [h.nil]
  | cons w body ih =>
    obtain ⟨x, rest, rfl⟩ := h.cons
    have later : BodiesAgree (outcomeMask (n - 16)) rest body := by
      obtain ⟨length, agree⟩ := h.tail
      refine ⟨length, fun k hk => ?_⟩
      have next : outcomeMask n (k + 1) = outcomeMask (n - 16) k := by
        rw [outcomeMask, outcomeMask, show n - 16 * (k + 1) = n - 16 - 16 * k by omega]
      exact next ▸ agree k hk
    have first : (outcomeFields x).take n = (outcomeFields w).take n := by
      apply List.ext_getElem
      · simp [outcomeFields]
      · intro k hx hw
        have hk : k < n ∧ k < 16 := by simpa [outcomeFields] using hx
        obtain ⟨counted, inside⟩ := hk
        simp only [List.getElem_take, outcomeFields, List.getElem_map, List.getElem_range]
        exact bits_of_agree h.head (extract_lowMask (by omega) (by omega))
    have width : ∀ v, (outcomeFields v).length = 16 := fun v => by simp [outcomeFields]
    rw [List.flatMap_cons, List.flatMap_cons, List.take_append, List.take_append, first, width, width,
      ih (n - 16) rest later]

theorem decodeReport_of_agree {r : Radio} {other body : List Word}
    (h : BodiesAgree (Spec.named (.radio r) 0x42 ((body.getD 0 0).extractLsb' 16 7).toNat) other body) :
    decodeReport r other = decodeReport r body := by
  match body with
  | [] => rw [h.nil]
  | [w] =>
    obtain ⟨x, rest, rfl⟩ := h.cons
    cases h.tail.nil
    rfl
  | w :: v :: body =>
    obtain ⟨x, rest, rfl⟩ := h.cons
    obtain ⟨y, rest, rfl⟩ := h.tail.cons
    have head : AgreeOn 0x007F00FF x w := h.head
    have whole : y = v := eq_of_agree h.tail.head
    have count : bits x 16 7 = bits w 16 7 := bits_of_agree head rfl
    have tag : bits x 0 8 = bits w 0 8 := bits_of_agree head rfl
    have outcomes := take_outcomeFields_of_agree (bits w 16 7).toNat rest body h.tail.tail
    have length : rest.length = body.length := h.tail.tail.1
    simp only [decodeReport, count, tag, whole, outcomes, length]

/-! ### The settings blocks -/

theorem groupBlockOf_of_agree {x w : Word} (agree : AgreeOn 0x00FF0F07 x w) (s1 s3 s4 s5 : Word) :
    groupBlockOf s1 x s3 s4 s5 = groupBlockOf s1 w s3 s4 s5 := by
  have selector : bitAt x 0 = bitAt w 0 := bitAt_of_agree agree rfl
  have closed : bitAt x 1 = bitAt w 1 := bitAt_of_agree agree rfl
  have borrow : bitAt x 2 = bitAt w 2 := bitAt_of_agree agree rfl
  have retryLimit : bits x 8 4 = bits w 8 4 := bits_of_agree agree rfl
  have releaseCount : bits x 16 8 = bits w 16 8 := bits_of_agree agree rfl
  simp only [groupBlockOf, selector, closed, borrow, retryLimit, releaseCount]

theorem radioBlockOf_of_agree {x w : Word} (agree : AgreeOn 0x00FFFFFF x w) (r1 r3 : Word) :
    radioBlockOf r1 x r3 = radioBlockOf r1 w r3 := by
  have ppdu : bits x 0 16 = bits w 0 16 := bits_of_agree agree rfl
  have frame : bits x 16 8 = bits w 16 8 := bits_of_agree agree rfl
  simp only [radioBlockOf, ppdu, frame]

theorem deviceBlockOf_of_agree {x w : Word} (agree : AgreeOn 0x0003FFFF x w) (d1 : Word) :
    deviceBlockOf d1 x = deviceBlockOf d1 w := by
  have settle : bits x 0 16 = bits w 0 16 := bits_of_agree agree rfl
  have mode : bits x 16 2 = bits w 16 2 := bits_of_agree agree rfl
  simp only [deviceBlockOf, settle, mode]

theorem decodeGroupSet_of_agree {n : Nat} {other body : List Word}
    (h : BodiesAgree (Spec.named .control 0x0C n) other body) :
    decodeControl 0x0C other = decodeControl 0x0C body := by
  by_cases six : body.length = 6
  · match body, other, six, h.1 with
    | [w, w1, w2, w3, w4, w5], [x, x1, x2, x3, x4, x5], _, _ =>
      have group : bits x 0 8 = bits w 0 8 := bits_of_agree (m := 0x000000FF) (h.2 0 (by simp)) rfl
      have flags : AgreeOn 0x00FF0F07 x2 w2 := h.2 2 (by simp)
      have roles : x1 = w1 := eq_of_agree (h.2 1 (by simp))
      have quantum : x3 = w3 := eq_of_agree (h.2 3 (by simp))
      have cap : x4 = w4 := eq_of_agree (h.2 4 (by simp))
      have limits : x5 = w5 := eq_of_agree (h.2 5 (by simp))
      show some (Instr.groupSet (bits x 0 8) (groupBlockOf x1 x2 x3 x4 x5)) =
        some (Instr.groupSet (bits w 0 8) (groupBlockOf w1 w2 w3 w4 w5))
      rw [group, roles, quantum, cap, limits, groupBlockOf_of_agree flags]
  · have unread : ∀ words : List Word, words.length ≠ 6 → decodeControl 0x0C words = none := fun words hne =>
      Option.not_isSome_iff_eq_none.1 fun h =>
        hne (Nat.succ.inj ((decodeControl_fixed (kind := 0x0C) (n := 7) rfl words).1 h))
    rw [unread body six, unread other (h.1 ▸ six)]

theorem decodeRadioSet_of_agree {n : Nat} {other body : List Word}
    (h : BodiesAgree (Spec.named .control 0x10 n) other body) :
    decodeControl 0x10 other = decodeControl 0x10 body := by
  by_cases four : body.length = 4
  · match body, other, four, h.1 with
    | [w, w1, w2, w3], [x, x1, x2, x3], _, _ =>
      have radio : bits x 0 2 = bits w 0 2 := bits_of_agree (m := 0x00000003) (h.2 0 (by simp)) rfl
      have epoch : x1 = w1 := eq_of_agree (h.2 1 (by simp))
      have overheads : AgreeOn 0x00FFFFFF x2 w2 := h.2 2 (by simp)
      have rates : x3 = w3 := eq_of_agree (h.2 3 (by simp))
      show some (Instr.radioSet (bits x 0 2) (radioBlockOf x1 x2 x3)) =
        some (Instr.radioSet (bits w 0 2) (radioBlockOf w1 w2 w3))
      rw [radio, epoch, rates, radioBlockOf_of_agree overheads]
  · have unread : ∀ words : List Word, words.length ≠ 4 → decodeControl 0x10 words = none := fun words hne =>
      Option.not_isSome_iff_eq_none.1 fun h =>
        hne (Nat.succ.inj ((decodeControl_fixed (kind := 0x10) (n := 5) rfl words).1 h))
    rw [unread body four, unread other (h.1 ▸ four)]

/-! ### Every kind -/

theorem byte_of_toNat {kind : Byte} {n : Nat} (h : kind.toNat = n) : kind = BitVec.ofNat 8 n := by
  rw [← h, BitVec.ofNat_toNat, BitVec.setWidth_eq]

theorem decodeControl_of_agree {kind : Byte} {n : Nat} {other body : List Word}
    (h : BodiesAgree (Spec.named .control kind.toNat n) other body) :
    decodeControl kind other = decodeControl kind body := by
  by_cases known : isRequestKind .control kind = true
  case neg =>
    rw [Bool.not_eq_true] at known
    rw [decodeControl_of_not_kind known, decodeControl_of_not_kind known]
  obtain ⟨low, high⟩ := (isRequestKind_control_iff kind).1 known
  generalize number : kind.toNat = k at *
  obtain rfl := byte_of_toNat number
  clear number known
  match k, low, high, h with
  | 1, _, _, h =>
    refine body2_of_agree h fun x w y v (agree : AgreeOn 0x07FFFFFF x w) (whole : AgreeOn 0xFFFFFFFF y v) => ?_
    have index : bits x 0 16 = bits w 0 16 := bits_of_agree agree rfl
    have ssid : bits x 16 8 = bits w 16 8 := bits_of_agree agree rfl
    have owner : bits x 24 2 = bits w 24 2 := bits_of_agree agree rfl
    have pinned : bitAt x 26 = bitAt w 26 := bitAt_of_agree agree rfl
    rw [index, ssid, owner, pinned, eq_of_agree whole]
  | 2, _, _, h | 4, _, _, h | 6, _, _, h | 7, _, _, h | 9, _, _, h | 10, _, _, h =>
    exact body1_of_agree h fun x w (agree : AgreeOn 0x0000FFFF x w) => congrArg _ (bits_of_agree agree rfl)
  | 3, _, _, h => exact decodeQueue_of_agree h
  | 5, _, _, h =>
    exact body1_of_agree h fun x w (agree : AgreeOn 0x0003FFFF x w) =>
      congrArg₂ _ (bits_of_agree agree rfl) (bits_of_agree agree rfl)
  | 8, _, _, h =>
    exact body1_of_agree h fun x w (agree : AgreeOn 0x00FFFFFF x w) =>
      congrArg₂ _ (bits_of_agree agree rfl) (bits_of_agree agree rfl)
  | 11, _, _, h =>
    exact body1_of_agree h fun x w (agree : AgreeOn 0x0000010F x w) =>
      congrArg₂ _ (bits_of_agree agree rfl) (bitAt_of_agree agree rfl)
  | 12, _, _, h => exact decodeGroupSet_of_agree h
  | 13, _, _, h | 20, _, _, h =>
    exact body1_of_agree h fun x w (agree : AgreeOn 0x000000FF x w) => congrArg _ (bits_of_agree agree rfl)
  | 14, _, _, h | 15, _, _, h | 19, _, _, h | 21, _, _, h | 25, _, _, h => exact body0_of_agree _ h
  | 16, _, _, h => exact decodeRadioSet_of_agree h
  | 17, _, _, h =>
    exact body1_of_agree h fun x w (agree : AgreeOn 0x00000003 x w) => congrArg _ (bits_of_agree agree rfl)
  | 18, _, _, h =>
    refine body2_of_agree h fun x w y v (whole : AgreeOn 0xFFFFFFFF x w) (agree : AgreeOn 0x0003FFFF y v) => ?_
    rw [eq_of_agree whole, deviceBlockOf_of_agree agree]
  | 22, _, _, h | 23, _, _, h | 24, _, _, h =>
    exact body1_of_agree h fun x w (agree : AgreeOn 0x000003FF x w) => congrArg _ (bits_of_agree agree rfl)
  | _ + 26, _, high, _ => exact absurd high (by omega)

theorem decodeRadio_of_agree {r : Radio} {kind : Byte} {other body : List Word}
    (h : BodiesAgree (Spec.named (.radio r) kind.toNat ((body.getD 0 0).extractLsb' 16 7).toNat) other body) :
    decodeRadio r kind other = decodeRadio r kind body := by
  by_cases known : isRequestKind (.radio r) kind = true
  case neg =>
    rw [Bool.not_eq_true] at known
    rw [decodeRadio_of_not_kind known, decodeRadio_of_not_kind known]
  obtain ⟨low, high⟩ := (isRequestKind_radio_iff r kind).1 known
  generalize number : kind.toNat = k at *
  obtain rfl := byte_of_toNat number
  clear number known
  obtain ⟨j, rfl⟩ := Nat.exists_eq_add_of_le low
  match j, high, h with
  | 0, _, h => exact body0_of_agree _ h
  | 1, _, h =>
    exact body1_of_agree h fun x w (agree : AgreeOn 0x0000FFFF x w) => congrArg _ (bits_of_agree agree rfl)
  | 2, _, h => exact decodeReport_of_agree h
  | 3, _, h =>
    exact body1_of_agree h fun x w (agree : AgreeOn 0x000000FF x w) => congrArg _ (bits_of_agree agree rfl)
  | 4, _, h =>
    refine body2_of_agree h fun x w y v (first : AgreeOn 0x0003FFFF x w) (second : AgreeOn 0x0000FFFF y v) => ?_
    have index : bits x 0 16 = bits w 0 16 := bits_of_agree first rfl
    have power : bits x 16 2 = bits w 16 2 := bits_of_agree first rfl
    have rate : bits y 0 16 = bits v 0 16 := bits_of_agree second rfl
    rw [index, power, rate]
  | _ + 5, high, _ => exact absurd high (by omega)

theorem bits_upper (x : Word) {start len : Nat} (inside : start + len ≤ 16) :
    bits x (16 + start) len = (x.extractLsb' 16 16).extractLsb' start len := by
  ext k hk
  simp only [bits, BitVec.getElem_extractLsb', BitVec.getLsbD_extractLsb', Nat.add_assoc,
    show start + k < 16 by omega, decide_true, Bool.true_and]

/-- Settles O58: equal kind and count lead to the same body layout, which reads the named bits alone. -/
theorem reservedBitsIgnored : Obligations.ReservedBitsIgnored := by
  intro l h x body other headers length kind n agree
  have count : bits x 16 8 = bits h 16 8 := by
    rw [bits_upper x (start := 0) (by decide), headers, ← bits_upper h (by decide)]
  have sameKind : bits x 24 8 = bits h 24 8 := by
    rw [bits_upper x (start := 8) (by decide), headers, ← bits_upper h (by decide)]
  have spelt : decodeBody l (bits h 24 8) other = decodeBody l (bits h 24 8) body := by
    cases l with
    | control => exact decodeControl_of_agree ⟨length, agree⟩
    | radio r => exact decodeRadio_of_agree ⟨length, agree⟩
  rw [decodeRecord_cons, decodeRecord_cons, count, sameKind, spelt, length]

end Sys2Proof
end

section
/-! The records of the answers (R182 to R190): a word as the concatenation of its fields is the word that
names each field with its lowest bit. -/

namespace Sys2Proof

open Machine

/-! ### Fields laid into a word -/

/-- A field laid into a word at its lowest bit. -/
def laid {w : Nat} (lo : Nat) (x : BitVec w) (rest : Word) : Word := (x.setWidth 32 <<< lo) ||| rest

theorem laid_word (x : Word) : laid 0 x 0 = x := by
  simp [laid]

theorem laid_zero (w lo : Nat) (rest : Word) : laid lo (0#w) rest = rest := by
  simp [laid]

/-- A concatenation is laid as its low field with its high field above it. -/
theorem laid_append {w v : Nat} (lo : Nat) (high : BitVec w) (low : BitVec v) (rest : Word) :
    laid lo (high ++ low) rest = laid lo low (laid (lo + v) high rest) := by
  have split : (high ++ low).setWidth 32 = (high.setWidth 32 <<< v) ||| low.setWidth 32 := by
    ext k hk
    simp only [BitVec.getElem_setWidth, BitVec.getLsbD_append, BitVec.getElem_or, BitVec.getElem_shiftLeft]
    by_cases below : k < v
    · simp [below]
    · have above : low.getLsbD k = false := BitVec.getLsbD_of_ge _ _ (by omega)
      simp [below, above]
  rw [laid, laid, laid, split, BitVec.shiftLeft_or_distrib, ← BitVec.shiftLeft_add, Nat.add_comm v lo,
    BitVec.or_comm (high.setWidth 32 <<< _), BitVec.or_assoc]

theorem laid_left_comm {w v lo hi : Nat} (x : BitVec w) (y : BitVec v) (rest : Word) :
    laid lo x (laid hi y rest) = laid hi y (laid lo x rest) := by
  rw [laid, laid, laid, laid, ← BitVec.or_assoc, ← BitVec.or_assoc, BitVec.or_comm (x.setWidth 32 <<< lo)]

theorem word_nil : Spec.word [] = 0 := rfl

theorem word_cons (lo w n : Nat) (fields : List (Nat × Nat × Nat)) :
    Spec.word ((lo, w, n) :: fields) = laid lo (BitVec.ofNat w n) (Spec.word fields) := rfl

/-! ### The codes of the fields -/

theorem ofNat_one (b : Bool) : BitVec.ofNat 1 (Spec.one b) = flagBit b := by
  cases b <;> rfl

theorem ofNat_radioNo (r : Radio) : BitVec.ofNat 2 (Spec.radioNo r) = radioCode r := by
  cases r <;> rfl

theorem ofNat_pendingNo (r : Option Radio) : BitVec.ofNat 2 (Spec.pendingNo r) = optionalRadioCode r := by
  match r with
  | none => rfl
  | some .a => rfl
  | some .b => rfl

theorem ofNat_stateNo (t : StationState) : BitVec.ofNat 3 (Spec.stateNo t) = stateCode t := by
  cases t <;> rfl

theorem ofNat_reasonNo (t : Reason) : BitVec.ofNat 3 (Spec.reasonNo t) = noticeCode t := by
  cases t <;> rfl

theorem ofNat_codeNo (c : Code) : BitVec.ofNat 8 (Spec.codeNo c) = codeByte c := by
  cases c <;> rfl

theorem ofNat_passNo (c : PassReason) : BitVec.ofNat 8 (Spec.passNo c) = reasonByte c := by
  cases c <;> rfl

theorem ofNat_byte {w : Nat} (b : BitVec w) : BitVec.ofNat w b.toNat = b := by
  rw [BitVec.ofNat_toNat, BitVec.setWidth_eq]

theorem ofNat_deficit (d : Int) : BitVec.ofNat 16 (d % 65536).toNat = deficitField d := by
  apply BitVec.eq_of_toNat_eq
  rw [BitVec.toNat_ofNat, deficitField, BitVec.toNat_ofInt, Nat.mod_eq_of_lt (by omega)]
  rfl

/-! ### Words of two fields -/

theorem halves_eq (high low : Nat) : halves high low = Spec.word [(0, 16, low), (16, 16, high)] := by
  refine (laid_word _).symm.trans ?_
  simp only [halves, laid_append, word_cons, word_nil, field, -Nat.reduceAdd]

theorem lowHalf_eq (low : Nat) : halves 0 low = Spec.word [(0, 16, low)] := by
  refine (laid_word _).symm.trans ?_
  simp only [halves, laid_append, laid_zero, word_cons, word_nil, field, -Nat.reduceAdd]

theorem whole_eq (n : Nat) : field 32 n = Spec.word [(0, 32, n)] := by
  refine (laid_word _).symm.trans ?_
  simp only [word_cons, word_nil, field]

theorem radioWord_eq (r : Radio) : 0#30 ++ radioCode r = Spec.word [(0, 2, Spec.radioNo r)] := by
  refine (laid_word _).symm.trans ?_
  simp only [laid_append, laid_zero, word_cons, word_nil, ofNat_radioNo, -Nat.reduceAdd]

/-! ### The blocks -/

theorem snapshotWords_eq (t : Snapshot) : snapshotWords t = Spec.snapshot t := by
  have first : 0#3 ++ flagBit t.dismissMark ++ flagBit (t.power = .doze) ++ flagBit t.pinned ++
      optionalRadioCode t.pendingOwner ++ radioCode t.owner ++ field 2 t.group ++ 0#1 ++
      stateCode t.state ++ field 16 t.index =
    Spec.word [(0, 16, t.index), (16, 3, Spec.stateNo t.state), (20, 2, t.group), (22, 2, Spec.radioNo t.owner),
      (24, 2, Spec.pendingNo t.pendingOwner), (26, 1, Spec.one t.pinned), (27, 1, Spec.one (t.power = .doze)),
      (28, 1, Spec.one t.dismissMark)] := by
    refine (laid_word _).symm.trans ?_
    simp only [laid_append, laid_zero, word_cons, word_nil, field, ofNat_one, ofNat_radioNo, ofNat_pendingNo,
      ofNat_stateNo, -Nat.reduceAdd]
  have second : t.grantTag.getD 0 ++ 0#2 ++ field 6 t.weight ++ t.role ++ 0#1 ++ flagBit t.settleMs.isSome ++
      flagBit t.holdUs.isSome ++ flagBit t.grantTag.isSome ++ t.ssid =
    Spec.word [(0, 4, t.ssid.toNat), (4, 1, Spec.one t.grantTag.isSome), (5, 1, Spec.one t.holdUs.isSome),
      (6, 1, Spec.one t.settleMs.isSome), (8, 8, t.role.toNat), (16, 6, t.weight),
      (24, 8, match t.grantTag with
        | some tag => tag.toNat
        | none => 0)] := by
    have tag : BitVec.ofNat 8 (match t.grantTag with
        | some tag => tag.toNat
        | none => 0) = t.grantTag.getD 0 := by
      cases t.grantTag with
      | none => rfl
      | some tag => exact ofNat_byte tag
    refine (laid_word _).symm.trans ?_
    simp only [laid_append, laid_zero, word_cons, word_nil, field, ofNat_one, ofNat_byte, tag, -Nat.reduceAdd]
  have third : deficitField t.deficit ++ field 16 t.rate =
      Spec.word [(0, 16, t.rate), (16, 16, (t.deficit % 65536).toNat)] := by
    refine (laid_word _).symm.trans ?_
    simp only [laid_append, word_cons, word_nil, field, ofNat_deficit, -Nat.reduceAdd]
  rw [snapshotWords, Spec.snapshot, first, second, third, halves_eq, lowHalf_eq] <;> rfl

theorem noticeWords_eq (n : Notice) : noticeWords n = Spec.notice n := by
  have second : 0#8 ++ field 4 n.slot.retry ++ 0#1 ++ noticeCode n.reason ++ field 16 n.slot.station =
      Spec.word [(0, 16, n.slot.station), (16, 3, Spec.reasonNo n.reason), (20, 4, n.slot.retry)] := by
    refine (laid_word _).symm.trans ?_
    simp only [laid_append, laid_zero, word_cons, word_nil, field, ofNat_reasonNo, -Nat.reduceAdd]
  rw [noticeWords, Spec.notice, second]

theorem groupBlockWords_eq (g : GroupSettings) : groupBlockWords g = Spec.groupBlock g := by
  have first : g.roleHigh ++ g.roleLow ++ g.ssidSet =
      Spec.word [(0, 16, g.ssidSet.toNat), (16, 8, g.roleLow.toNat), (24, 8, g.roleHigh.toNat)] := by
    refine (laid_word _).symm.trans ?_
    simp only [laid_append, word_cons, word_nil, ofNat_byte, -Nat.reduceAdd]
  have second : 0#8 ++ field 8 g.releaseCount ++ 0#4 ++ field 4 g.retryLimit ++ 0#5 ++ flagBit g.borrow ++
      flagBit g.closed ++ flagBit g.selector =
      Spec.word [(0, 1, Spec.one g.selector), (1, 1, Spec.one g.closed), (2, 1, Spec.one g.borrow),
        (8, 4, g.retryLimit), (16, 8, g.releaseCount)] := by
    refine (laid_word _).symm.trans ?_
    simp only [laid_append, laid_zero, word_cons, word_nil, field, ofNat_one, -Nat.reduceAdd]
  rw [groupBlockWords, Spec.groupBlock, first, second, halves_eq, halves_eq, halves_eq]

theorem radioBlockWords_eq (t : RadioSettings) : radioBlockWords t = Spec.radioBlock t := by
  have second : 0#8 ++ field 8 t.frameOverhead ++ field 16 t.ppduOverhead =
      Spec.word [(0, 16, t.ppduOverhead), (16, 8, t.frameOverhead)] := by
    refine (laid_word _).symm.trans ?_
    simp only [laid_append, laid_zero, word_cons, word_nil, field, -Nat.reduceAdd]
  rw [radioBlockWords, Spec.radioBlock, whole_eq, second, halves_eq]

theorem deviceBlockWords_eq (t : DeviceSettings) : deviceBlockWords t = Spec.deviceBlock t := by
  have second : 0#14 ++ freezeModeCode t.freezeMode ++ field 16 t.settleTime =
      Spec.word [(0, 16, t.settleTime), (16, 2, match t.freezeMode with
        | .run => 1
        | .halt => 2)] := by
    have mode : BitVec.ofNat 2 (match t.freezeMode with
        | .run => 1
        | .halt => 2) = freezeModeCode t.freezeMode := by
      cases t.freezeMode <;> rfl
    refine (laid_word _).symm.trans ?_
    simp only [laid_append, laid_zero, word_cons, word_nil, field, mode, -Nat.reduceAdd]
  rw [deviceBlockWords, Spec.deviceBlock, halves_eq, second] <;> rfl

/-! ### Outcome bytes -/

theorem eq_of_bytes {x y : Word} (same : ∀ k < 4, bits x (8 * k) 8 = bits y (8 * k) 8) : x = y := by
  ext k hk
  have byte := congrArg (fun b : Byte => b.getLsbD (k % 8)) (same (k / 8) (by omega))
  simp only [bits, BitVec.getLsbD_extractLsb', show k % 8 < 8 by omega, decide_true, Bool.true_and,
    show 8 * (k / 8) + k % 8 = k by omega] at byte
  exact byte

theorem field_packFields (a b c d : Byte) :
    field 32 (packFields [a, b, c, d]) = laid 0 a (laid 8 b (laid 16 c (laid 24 d 0))) := by
  have joined : field 32 (packFields [a, b, c, d]) = d ++ c ++ b ++ a := by
    refine eq_of_bytes fun k hk => ?_
    rw [bits_packFields [a, b, c, d] (by omega)]
    interval_cases k <;>
      simp (disch := decide) only [bits, extract_above, extract_lowest, extract_whole, -Nat.reduceAdd] <;> rfl
  rw [joined]
  refine (laid_word _).symm.trans ?_
  simp only [laid_append, -Nat.reduceAdd]

theorem packWords_short {bytes : List Byte} (short : bytes.length ≤ 4) (nonempty : bytes ≠ []) :
    packWords 4 bytes = [field 32 (packFields bytes)] := by
  rw [packWords_of_ne_nil (by decide) nonempty, List.take_of_length_le short, List.drop_eq_nil_of_le short,
    packWords_nil (by decide)]

theorem packWords_bytes (bytes : List Byte) :
    packWords 4 bytes = Spec.outcomeWords (bytes.map BitVec.toNat) := by
  match bytes with
  | [] => exact packWords_nil (by decide)
  | [a] =>
    rw [packWords_short (by simp) (by simp)]
    have word : field 32 (packFields [a]) = _ := field_packFields a 0 0 0
    simp only [List.map, Spec.outcomeWords, word, word_cons, word_nil, ofNat_byte, BitVec.ofNat_eq_ofNat, laid_zero]
  | [a, b] =>
    rw [packWords_short (by simp) (by simp)]
    have word : field 32 (packFields [a, b]) = _ := field_packFields a b 0 0
    simp only [List.map, Spec.outcomeWords, word, word_cons, word_nil, ofNat_byte, BitVec.ofNat_eq_ofNat, laid_zero]
  | [a, b, c] =>
    rw [packWords_short (by simp) (by simp)]
    have word : field 32 (packFields [a, b, c]) = _ := field_packFields a b c 0
    simp only [List.map, Spec.outcomeWords, word, word_cons, word_nil, ofNat_byte, BitVec.ofNat_eq_ofNat, laid_zero]
  | a :: b :: c :: d :: rest =>
    rw [packWords_of_ne_nil (by decide) (List.cons_ne_nil _ _)]
    show field 32 (packFields [a, b, c, d]) :: packWords 4 rest = _
    rw [packWords_bytes rest, field_packFields]
    simp only [List.map, Spec.outcomeWords, word_cons, word_nil, ofNat_byte]

theorem packWords_codes (codes : List Code) :
    packWords 4 (codes.map codeByte) = Spec.outcomeWords (codes.map Spec.codeNo) := by
  have number : ∀ c, (codeByte c).toNat = Spec.codeNo c := fun c => by cases c <;> rfl
  rw [packWords_bytes, List.map_map]
  exact congrArg _ (List.map_congr_left fun c _ => number c)

/-! ### The bodies -/

theorem groupFigureWords_eq (g : GroupFigures) :
    groupFigureWords g = [Spec.word [(0, 32, g.usage)], Spec.word [(0, 32, g.cap)],
      Spec.word [(0, 32, g.borrowed)], Spec.word [(0, 32, g.ringLength)]] := by
  rw [groupFigureWords, whole_eq, whole_eq, whole_eq, whole_eq]

theorem grantFigureWord_eq (f : Option (Byte × StationIndex)) : grantFigureWord f = Spec.grantWord f := by
  cases f with
  | none => rfl
  | some f =>
    refine (laid_word _).symm.trans ?_
    simp only [grantFigureWord, Spec.grantWord, laid_append, laid_zero, word_cons, word_nil, field, ofNat_byte,
      -Nat.reduceAdd]

theorem radioFigureWords_eq (f : RadioFigures) : radioFigureWords f = Spec.radioRead f := by
  have head : 0#14 ++ field 2 f.grants.length ++ f.nextTag ++ 0#2 ++ flagBit f.epochRunning ++
      flagBit f.linkUp ++ 0#2 ++ radioCode f.radio =
      Spec.word [(0, 2, Spec.radioNo f.radio), (4, 1, Spec.one f.linkUp), (5, 1, Spec.one f.epochRunning),
        (8, 8, f.nextTag.toNat), (16, 2, f.grants.length)] := by
    refine (laid_word _).symm.trans ?_
    simp only [laid_append, laid_zero, word_cons, word_nil, field, ofNat_one, ofNat_radioNo, ofNat_byte,
      -Nat.reduceAdd]
  rw [radioFigureWords, Spec.radioRead, head, radioBlockWords_eq, whole_eq, whole_eq, grantFigureWord_eq,
    grantFigureWord_eq, funext groupFigureWords_eq]

theorem deviceFigureWords_eq (f : DeviceFigures) :
    deviceFigureWords f = Spec.controlBody (.deviceFigures f) := by
  have third : 0#8 ++ flagBit f.frozen ++ flagBit f.freezeInput ++ flagBit f.linkBUp ++ flagBit f.linkAUp ++
      0#1 ++ field 3 f.depth ++ field 16 f.backlogged =
      Spec.word [(0, 16, f.backlogged), (16, 3, f.depth), (20, 1, Spec.one f.linkAUp),
        (21, 1, Spec.one f.linkBUp), (22, 1, Spec.one f.freezeInput), (23, 1, Spec.one f.frozen)] := by
    refine (laid_word _).symm.trans ?_
    simp only [laid_append, laid_zero, word_cons, word_nil, field, ofNat_one, -Nat.reduceAdd]
  rw [deviceFigureWords, Spec.controlBody, deviceBlockWords_eq, halves_eq, halves_eq, third]

theorem bodyWords_eq (body : Body) : bodyWords body = Spec.controlBody body := by
  cases body
  case empty => rfl
  case stationGroup i g =>
    refine congrArg (· :: []) ((laid_word _).symm.trans ?_)
    simp only [laid_append, laid_zero, word_cons, word_nil, field, -Nat.reduceAdd]
  case queueOutcomes i n outcomes => rw [bodyWords, Spec.controlBody, halves_eq, packWords_codes]
  case purged n => rw [bodyWords, Spec.controlBody, lowHalf_eq]
  case steered i owner pending =>
    refine congrArg (· :: []) ((laid_word _).symm.trans ?_)
    simp only [laid_append, laid_zero, word_cons, word_nil, field, ofNat_radioNo, ofNat_pendingNo, -Nat.reduceAdd]
  case snapshot t => exact snapshotWords_eq t
  case scan ts atEnd =>
    refine congrArg₂ _ ((laid_word _).symm.trans ?_) (congrArg (ts.flatMap ·) (funext snapshotWords_eq))
    simp only [laid_append, laid_zero, word_cons, word_nil, field, ofNat_one, -Nat.reduceAdd]
  case groupSettings g depth settings =>
    refine congrArg₂ _ ((laid_word _).symm.trans ?_) (groupBlockWords_eq settings)
    simp only [laid_append, laid_zero, word_cons, word_nil, field, -Nat.reduceAdd]
  case stackDepth depth => rw [bodyWords, Spec.controlBody, whole_eq]
  case radioSettings r settings => rw [bodyWords, Spec.controlBody, radioWord_eq, radioBlockWords_eq]
  case radioFigures f => exact radioFigureWords_eq f
  case deviceSettings settings => exact deviceBlockWords_eq settings
  case deviceFigures f => exact deviceFigureWords_eq f
  case notices ns left =>
    refine congrArg₂ _ ((laid_word _).symm.trans ?_) (congrArg (ns.flatMap ·) (funext noticeWords_eq))
    simp only [laid_append, laid_zero, word_cons, word_nil, field, -Nat.reduceAdd]
  case eventSets raw enabled masked =>
    refine congrArg (· :: []) ((laid_word _).symm.trans ?_)
    simp only [laid_append, laid_zero, word_cons, word_nil, ofNat_byte, -Nat.reduceAdd]

/-! ### The records -/

theorem grantWords_eq (g : Grant) :
    grantWords g =
      [ Spec.word [(0, 8, g.tag.toNat), (8, 1, Spec.one (g.pass = .borrow)), (16, 7, g.frames.length)],
        Spec.word [(0, 16, g.station), (16, 16, g.rate)],
        Spec.word [(0, 16, g.estimate), (16, 16, g.budget)] ] ++
      g.frames.flatMap fun f => [f.handle, Spec.word [(0, 16, f.length)]] := by
  have head : 0#9 ++ field 7 g.frames.length ++ 0#7 ++ flagBit (g.pass = .borrow) ++ g.tag =
      Spec.word [(0, 8, g.tag.toNat), (8, 1, Spec.one (g.pass = .borrow)), (16, 7, g.frames.length)] := by
    refine (laid_word _).symm.trans ?_
    simp only [laid_append, laid_zero, word_cons, word_nil, field, ofNat_one, ofNat_byte, -Nat.reduceAdd]
  rw [grantWords, head, halves_eq, halves_eq]
  simp only [lowHalf_eq]

/-- A record is that of its kind and code bytes, with the same body. -/
theorem recordWords_eq {kind code : Byte} {kindNo codeNo : Nat} {body words : List Word}
    (hkind : BitVec.ofNat 8 kindNo = kind) (hcode : BitVec.ofNat 8 codeNo = code) (hbody : body = words) :
    recordWords kind code body = Spec.record kindNo codeNo words := by
  subst hkind hcode hbody
  refine congrArg (· :: body) ((laid_word _).symm.trans ?_)
  simp only [headerWord, laid_append, laid_zero, word_cons, word_nil, field, -Nat.reduceAdd]
  rw [laid_left_comm (BitVec.ofNat 8 codeNo), laid_left_comm (BitVec.ofNat 8 codeNo),
    laid_left_comm (BitVec.ofNat 8 (body.length + 1))]

theorem answer_words_eq (a : Answer) : a.words = Spec.answerRecord a := by
  cases a
  case control kind code body =>
    refine recordWords_eq ?_ (ofNat_codeNo code) (bodyWords_eq body)
    rw [BitVec.ofNat_add, ofNat_byte]
    rfl
  case linkReady r => exact recordWords_eq rfl rfl (congrArg (· :: []) (radioWord_eq r))
  case grant g => exact recordWords_eq rfl rfl (grantWords_eq g)
  case pass reason => exact recordWords_eq rfl (ofNat_passNo reason) rfl
  case taken kind name =>
    refine recordWords_eq rfl rfl (congrArg (· :: []) ((laid_word _).symm.trans ?_))
    simp only [laid_append, laid_zero, word_cons, word_nil, ofNat_byte, -Nat.reduceAdd]
  case refused kind code =>
    refine recordWords_eq rfl (ofNat_codeNo code) (congrArg (· :: []) ((laid_word _).symm.trans ?_))
    simp only [laid_append, laid_zero, word_cons, word_nil, ofNat_byte, -Nat.reduceAdd]

/-- Settles O60: each word is the concatenation of its fields, laid one above the other; the worked case is
evaluated. -/
theorem answerRecordsFollowLayouts : Obligations.AnswerRecordsFollowLayouts :=
  ⟨answer_words_eq, rfl, rfl, rfl, rfl, rfl⟩

end Sys2Proof
end

section
/-! The station operations keep stations, rings and grants in agreement (chapters 2, 3, 7 and 8). -/

namespace Sys2Proof.Safety

open Machine

/-! ### A station without a grant -/

/-- What a sound record without a grant has whatever its state. -/
structure Resting (i : StationIndex) (st : Station) : Prop where
  pending : st.pendingOwner = none
  mark : st.dismissMark = false
  weight : 1 ≤ st.weight ∧ st.weight ≤ 32
  rate : st.rate = 0 ∨ (10 ≤ st.rate ∧ st.rate ≤ 24000)
  deficit : -16383 ≤ st.deficit ∧ st.deficit ≤ 16383
  queued : ∀ f ∈ st.queue, SlotOf i f
  settle : ∀ n, st.settle = some n → Remains (msToCycles 60000) n

variable {i : StationIndex} {st : Station} {s t : State}

theorem Resting.fits (h : Resting i st) (shape : ShapeOfState st)
    (hold : ∀ n, st.hold = some n → Remains (usToCycles 4000) n) : StationFits i st where
  sound :=
    { shape := shape
      granted := by
        rintro (pending | mark)
        · exact absurd pending (by simp [h.pending])
        · exact absurd mark (by simp [h.mark])
      exclusive := fun both => absurd both.2 (by simp [h.mark])
      marked := fun mark => absurd mark (by simp [h.mark])
      pending := fun pending => absurd pending (by simp [h.pending])
      weight := h.weight
      rate := h.rate
      deficit := h.deficit }
  queued := h.queued
  hold := hold
  settle := h.settle

theorem StationFits.resting (h : StationFits i st) (state : st.state ≠ .granted) : Resting i st where
  pending := Option.not_isSome_iff_eq_none.1 fun pending => state (h.sound.granted (.inl pending))
  mark := Bool.not_eq_true _ ▸ fun mark => state (h.sound.granted (.inr mark))
  weight := h.sound.weight
  rate := h.sound.rate
  deficit := h.sound.deficit
  queued := h.queued
  settle := h.settle

/-- What the state of a station without a grant says of its queue, its power and its hold (R22). -/
theorem StationSound.shape_idle (h : StationSound st) (state : st.state = .idle) :
    st.queue = [] ∧ st.hold = none ∧ st.grantTag = none := by
  have shape := h.shape
  rwa [ShapeOfState, state] at shape

theorem StationSound.shape_holding (h : StationSound st) (state : st.state = .holding) :
    st.queue ≠ [] ∧ st.power = .awake ∧ st.hold.isSome ∧ st.grantTag = none := by
  have shape := h.shape
  rwa [ShapeOfState, state] at shape

theorem StationSound.shape_ready (h : StationSound st) (state : st.state = .ready) :
    st.queue ≠ [] ∧ st.power = .awake ∧ st.hold = none ∧ st.grantTag = none := by
  have shape := h.shape
  rwa [ShapeOfState, state] at shape

theorem StationSound.shape_granted (h : StationSound st) (state : st.state = .granted) :
    st.hold = none ∧ st.grantTag.isSome := by
  have shape := h.shape
  rwa [ShapeOfState, state] at shape

theorem StationSound.shape_dozing (h : StationSound st) (state : st.state = .dozing) :
    st.queue ≠ [] ∧ st.power = .doze ∧ st.hold = none ∧ st.grantTag = none := by
  have shape := h.shape
  rwa [ShapeOfState, state] at shape

theorem StationSound.shape_free (h : StationSound st) (state : st.state = .free) : st = st.vacated := by
  have shape := h.shape
  rwa [ShapeOfState, state] at shape

theorem shape_of_granted (state : st.state = .granted) (shape : st.hold = none ∧ st.grantTag.isSome) :
    ShapeOfState st := by
  rwa [ShapeOfState, state]

/-- The shape of an admitted station reads its state, queue, power, hold and tag alone. -/
theorem shape_of_same {st' : Station} (h : ShapeOfState st) (admitted : st.state ≠ .free)
    (state : st'.state = st.state) (queue : st'.queue = st.queue) (power : st'.power = st.power)
    (hold : st'.hold = st.hold) (tag : st'.grantTag = st.grantTag) : ShapeOfState st' := by
  unfold ShapeOfState at h ⊢
  rw [state, queue, power, hold, tag]
  split at h
  · next free => exact absurd free admitted
  all_goals exact h

theorem StationSound.untagged (h : StationSound st) (state : st.state ≠ .granted) : st.grantTag = none := by
  cases hst : st.state with
  | free => rw [h.shape_free hst]; rfl
  | idle => exact (h.shape_idle hst).2.2
  | holding => exact (h.shape_holding hst).2.2.2
  | ready => exact (h.shape_ready hst).2.2.2
  | granted => exact absurd hst state
  | dozing => exact (h.shape_dozing hst).2.2.2

theorem StationSound.unheld (h : StationSound st) (state : st.state ≠ .holding) : st.hold = none := by
  cases hst : st.state with
  | free => rw [h.shape_free hst]; rfl
  | idle => exact (h.shape_idle hst).2.1
  | holding => exact absurd hst state
  | ready => exact (h.shape_ready hst).2.2.1
  | granted => exact (h.shape_granted hst).1
  | dozing => exact (h.shape_dozing hst).2.2.1

/-! ### Records placed in a state -/

theorem Resting.idle (h : Resting i st) (queue : st.queue = []) (tag : st.grantTag = none) :
    StationFits i { st with state := .idle, hold := none } :=
  Resting.fits { h with } ⟨queue, rfl, tag⟩ fun _ hold => nomatch hold

theorem Resting.ready (h : Resting i st) (queue : st.queue ≠ []) (power : st.power = .awake)
    (tag : st.grantTag = none) : StationFits i { st with state := .ready, hold := none } :=
  Resting.fits { h with } ⟨queue, power, rfl, tag⟩ fun _ hold => nomatch hold

theorem Resting.dozing (h : Resting i st) (queue : st.queue ≠ []) (power : st.power = .doze)
    (tag : st.grantTag = none) : StationFits i { st with state := .dozing, hold := none } :=
  Resting.fits { h with } ⟨queue, power, rfl, tag⟩ fun _ hold => nomatch hold

theorem fits_vacated (i : StationIndex) (st : Station) : StationFits i st.vacated :=
  Resting.fits (st := st.vacated)
    { pending := rfl, mark := rfl, weight := (by decide : 1 ≤ 8 ∧ 8 ≤ 32), rate := .inl rfl,
      deficit := (by decide : (-16383 : Int) ≤ 0 ∧ (0 : Int) ≤ 16383),
      queued := fun _ hf => (nomatch hf), settle := fun _ hn => nomatch hn }
    rfl fun _ hold => nomatch hold

/-! ### Notices of a station's slots -/

theorem SlotOf.notice {f : Slot} (h : SlotOf i f) (reason : Reason) : NoticeSound ⟨f, reason⟩ :=
  ⟨h.length, .inl h.retry⟩

theorem StationFits.notices (h : StationFits i st) (reason : Reason) :
    ∀ n ∈ st.queue.map fun slot => Notice.mk slot reason, NoticeSound n := by
  intro n hn
  obtain ⟨f, hf, rfl⟩ := List.mem_map.1 hn
  exact (h.queued f hf).notice reason

theorem Apart.retireQueue (h : Apart i s) (fits : StationFits i (s.station i)) (reason : Reason) :
    Apart i (s.retireQueue i reason) := by
  rw [State.retireQueue_eq]
  exact (h.setStation _).retireAll (fits.notices reason)

/-! ### ADMIT, DISMISS -/

theorem StationsAgree.reply (h : StationsAgree s) (kind : Byte) (code : Code) (body : Body) :
    StationsAgree (s.reply kind code body) := h.answer .control _

theorem StationsAgree.replyHeader (h : StationsAgree s) (kind : Byte) (code : Code) :
    StationsAgree (s.replyHeader kind code) := h.reply ..

theorem StationsAgree.refuseRadio (h : StationsAgree s) (r : Radio) (kind : Byte) (code : Code) :
    StationsAgree (s.refuseRadio r kind code) := h.answer (.radio r) _

theorem StationsAgree.refuseMalformed (h : StationsAgree s) (l : Link) (kind : Byte) :
    StationsAgree (s.refuseMalformed l kind) := by
  cases l with
  | control => exact (h.replyHeader ..).raise _
  | radio r => exact (h.refuseRadio ..).raise _

theorem rate_admitRate (rate : BitVec 16) :
    admitRate rate = 0 ∨ (10 ≤ admitRate rate ∧ admitRate rate ≤ 24000) := by
  unfold admitRate
  split
  · exact .inl rfl
  · exact .inr (clampTo_mem (by decide) _)

theorem rate_noteRate {held : Nat} (h : held = 0 ∨ (10 ≤ held ∧ held ≤ 24000)) (rate : BitVec 16) :
    noteRate held rate = 0 ∨ (10 ≤ noteRate held rate ∧ noteRate held rate ≤ 24000) := by
  unfold noteRate
  split
  · exact h
  · exact .inr (clampTo_mem (by decide) _)

theorem fits_admittedRecord (i : StationIndex) (g : GroupIndex) (ssid : Byte) (r : Radio) (pinned : Bool)
    (role weight : Byte) (rate : BitVec 16) :
    StationFits i (admittedRecord g ssid r pinned role weight rate) :=
  Resting.fits (st := admittedRecord g ssid r pinned role weight rate)
    { pending := rfl, mark := rfl, weight := clampTo_mem (by decide) _, rate := rate_admitRate rate,
      deficit := (by decide : (-16383 : Int) ≤ 0 ∧ (0 : Int) ≤ 16383),
      queued := fun _ hf => (nomatch hf), settle := fun _ hn => nomatch hn }
    ⟨rfl, rfl, rfl⟩ fun _ hold => nomatch hold

theorem Apart.put_off (h : Apart i s) (free : Ungranted i s) (fits : StationFits i st) (ready : st.state ≠ .ready)
    (granted : st.state ≠ .granted) : StationsAgree (s.setStation i st) :=
  (h.setStation st).close_off (free.congr fun r => by simp) (by simpa using fits) (by simpa using ready)
    (by simpa using granted)

/-- A station that is neither READY nor GRANTED takes a record that is neither. -/
theorem StationsAgree.replace (h : StationsAgree s) (ready : (s.station i).state ≠ .ready)
    (granted : (s.station i).state ≠ .granted) {st : Station} (fits : StationFits i st)
    (ready' : st.state ≠ .ready) (granted' : st.state ≠ .granted) : StationsAgree (s.setStation i st) :=
  (h.apart ready).put_off (h.ungranted granted) fits ready' granted'

theorem StationsAgree.admitTaken (h : StationsAgree s) (index : BitVec 16) (ssid : Byte) (owner : BitVec 2)
    (pinned : Bool) (role weight : Byte) (rate : BitVec 16) :
    StationsAgree (Machine.admitTaken index ssid owner pinned role weight rate s) := by
  unfold Machine.admitTaken
  split
  case h_2 => exact h.replyHeader ..
  case h_1 i r _ _ =>
    split
    · exact h.replyHeader ..
    split
    · exact h.replyHeader ..
    next free =>
    rw [not_not] at free
    split
    · exact h.replyHeader ..
    · exact (h.replace (by simp [free]) (by simp [free]) (fits_admittedRecord i _ _ _ _ _ _ _)
        (by simp [admittedRecord]) (by simp [admittedRecord])).reply ..

theorem Ungranted.retireQueue (h : Ungranted i s) (reason : Reason) : Ungranted i (s.retireQueue i reason) :=
  h.congr fun r => by rw [(State.StationWork.retireQueue ..).radio r]

theorem StationsAgree.apart_retired (h : StationsAgree s) (i : StationIndex) (reason : Reason) :
    Apart i ((s.exitRing i).retireQueue i reason) :=
  (h.apart_exitRing i).retireQueue (by rw [State.exitRing_station]; exact h.fits i) reason

theorem StationsAgree.dismissNow (h : StationsAgree s) (state : (s.station i).state ≠ .granted) :
    StationsAgree (s.dismissNow i) :=
  (h.apart_retired i .dismissed).put_off ((h.ungranted state).exitRing.retireQueue _) (fits_vacated i _)
    (fun e => nomatch e) fun e => nomatch e

/-- A GRANTED station whose queue is emptied by a retirement. -/
theorem StationsAgree.retireQueue_granted (h : StationsAgree s) (state : (s.station i).state = .granted)
    (reason : Reason) : StationsAgree (s.retireQueue i reason) := by
  rw [State.retireQueue_eq]
  refine StationsAgree.retireAll ?_ ((h.fits i).notices reason)
  have fits := h.fits i
  refine h.setStation ?_ rfl rfl (fun _ => rfl) fun _ => ⟨rfl, rfl⟩
  exact {
    sound := { fits.sound with
      shape := shape_of_granted state (fits.sound.shape_granted state)
      marked := fun _ => rfl }
    queued := fun _ hf => nomatch hf
    hold := fits.hold
    settle := fits.settle }

theorem StationsAgree.dismissLater (h : StationsAgree s) (state : (s.station i).state = .granted) :
    StationsAgree (s.dismissLater i) := by
  have retired := h.retireQueue_granted state .dismissed
  have fits := retired.fits i
  have queue : ((s.retireQueue i .dismissed).station i).queue = [] := by simp
  have granted : ((s.retireQueue i .dismissed).station i).state = .granted := by simp [state]
  refine retired.setStation (i := i) ?_ rfl rfl (fun _ => rfl) fun _ => ⟨rfl, rfl⟩
  exact {
    sound := { fits.sound with
      shape := shape_of_granted granted (fits.sound.shape_granted granted)
      granted := fun _ => granted
      exclusive := fun both => nomatch both.1
      marked := fun _ => queue
      pending := fun some => nomatch some }
    queued := fits.queued
    hold := fits.hold
    settle := fits.settle }

theorem StationsAgree.dismissTaken (h : StationsAgree s) (index : BitVec 16) :
    StationsAgree (Machine.dismissTaken index s) := by
  unfold Machine.dismissTaken
  split
  · exact h.replyHeader ..
  next i _ =>
  split
  · exact h.replyHeader ..
  · next state =>
    refine StationsAgree.replyHeader ?_ _ _
    split
    · exact h
    · exact h.dismissLater state
  · next state => exact (h.dismissNow state).replyHeader ..

/-! ### TUNE, PIN, UNPIN -/

/-- Writing fields of an admitted station that neither its shape nor its grant reads. -/
theorem StationsAgree.setWeight (h : StationsAgree s) (admitted : (s.station i).state ≠ .free) {weight : Nat}
    (range : 1 ≤ weight ∧ weight ≤ 32) :
    StationsAgree (s.setStation i { s.station i with weight := weight }) := by
  have fits := h.fits i
  refine h.setStation ?_ rfl rfl (fun _ => rfl) fun _ => ⟨rfl, rfl⟩
  exact { fits with
    sound := { fits.sound with
      weight := range, shape := shape_of_same fits.sound.shape admitted rfl rfl rfl rfl rfl } }

theorem StationsAgree.setRate (h : StationsAgree s) (admitted : (s.station i).state ≠ .free) {rate : Nat}
    (range : rate = 0 ∨ (10 ≤ rate ∧ rate ≤ 24000)) :
    StationsAgree (s.setStation i { s.station i with rate := rate }) := by
  have fits := h.fits i
  refine h.setStation ?_ rfl rfl (fun _ => rfl) fun _ => ⟨rfl, rfl⟩
  exact { fits with
    sound := { fits.sound with
      rate := range, shape := shape_of_same fits.sound.shape admitted rfl rfl rfl rfl rfl } }

theorem StationsAgree.setPinned (h : StationsAgree s) (admitted : (s.station i).state ≠ .free) {pinned : Bool}
    (pending : pinned = true → (s.station i).pendingOwner = none) :
    StationsAgree (s.setStation i { s.station i with pinned := pinned }) := by
  have fits := h.fits i
  refine h.setStation ?_ rfl rfl (fun _ => rfl) fun _ => ⟨rfl, rfl⟩
  have unpinned : (s.station i).pendingOwner.isSome → pinned = false := fun owner =>
    Bool.not_eq_true _ ▸ fun pin => by simp [pending pin] at owner
  exact { fits with
    sound := { fits.sound with
      shape := shape_of_same fits.sound.shape admitted rfl rfl rfl rfl rfl
      pending := fun owner => by
        obtain ⟨other, -, settle⟩ := fits.sound.pending owner
        exact ⟨other, unpinned owner, settle⟩ } }

/-- A request that names a station, refused or acting on it (R26). -/
theorem StationsAgree.onStation (h : StationsAgree s) {kind : Byte} {index : BitVec 16}
    {act : StationIndex → State}
    (taken : ∀ i, (s.station i).state ≠ .free → (s.station i).dismissMark = false → StationsAgree (act i)) :
    StationsAgree (s.onStation kind index act) :=
  State.onStation_keeps (fun code => h.replyHeader ..) fun i actionable => by
    obtain ⟨admitted, unmarked⟩ := (Station.actionable_iff_admitted _).1 actionable
    exact taken i admitted unmarked

theorem StationsAgree.tuneTaken (h : StationsAgree s) (index : BitVec 16) (weight : Byte) :
    StationsAgree (Machine.tuneTaken index weight s) :=
  h.onStation fun _ admitted _ => (h.setWeight admitted (clampTo_mem (by decide) _)).replyHeader ..

theorem StationsAgree.pinTaken (h : StationsAgree s) (index : BitVec 16) :
    StationsAgree (Machine.pinTaken index s) := by
  refine h.onStation fun i admitted _ => ?_
  split
  · exact h.replyHeader ..
  · next pending => exact (h.setPinned admitted fun _ => by simpa using pending).replyHeader ..

theorem StationsAgree.unpinTaken (h : StationsAgree s) (index : BitVec 16) :
    StationsAgree (Machine.unpinTaken index s) :=
  h.onStation fun _ admitted _ => (h.setPinned (pinned := false) admitted fun pin => nomatch pin).replyHeader ..

/-! ### REMATCH -/

theorem StationsAgree.changeGroup (h : StationsAgree s) (admitted : (s.station i).state ≠ .free)
    (g : GroupIndex) : StationsAgree (s.changeGroup i g) := by
  have fits := h.fits i
  have regrouped : StationFits i { s.station i with group := g } :=
    { fits with
      sound := { fits.sound with shape := shape_of_same fits.sound.shape admitted rfl rfl rfl rfl rfl } }
  unfold State.changeGroup
  split
  · next ready =>
    have apart := (h.apart_exitRing i).setStation { s.station i with group := g }
    have free := (h.ungranted (i := i) (by simp [ready])).exitRing.congr
      (t := (s.exitRing i).setStation i { s.station i with group := g }) fun r => by simp
    have joined := apart.close_join free (by simpa using regrouped) (by simpa using ready)
    simpa using joined
  · next ready => exact h.setStation regrouped rfl rfl (fun e => absurd e ready) fun _ => ⟨rfl, rfl⟩

theorem StationsAgree.rematchTaken (h : StationsAgree s) (index : BitVec 16) :
    StationsAgree (Machine.rematchTaken index s) := by
  refine h.onStation fun i admitted _ => ?_
  split
  · exact h.replyHeader ..
  · refine StationsAgree.reply ?_ _ _ _
    split
    · exact h
    · exact h.changeGroup admitted _

/-! ### PURGE -/

theorem StationsAgree.purgeStation (h : StationsAgree s) (i : StationIndex) : StationsAgree (s.purgeStation i) := by
  by_cases state : (s.station i).state = .granted
  · rw [State.purgeStation, if_pos state, State.exitRing_eq_self (by simp [state])]
    exact h.retireQueue_granted state .purged
  · rw [State.purgeStation, if_neg state]
    refine (h.apart_retired i .purged).put_off ((h.ungranted state).exitRing.retireQueue _) ?_
      (fun e => nomatch e) fun e => nomatch e
    have resting : Resting i { s.station i with queue := [] } :=
      { (h.fits i).resting state with queued := fun _ hf => nomatch hf }
    rw [State.retireQueue_station_self, State.exitRing_station]
    exact resting.idle rfl ((h.fits i).sound.untagged state)

theorem StationsAgree.purgeTaken (h : StationsAgree s) (index : BitVec 16) :
    StationsAgree (Machine.purgeTaken index s) :=
  h.onStation fun i _ _ => (h.purgeStation i).reply ..

/-! ### STEER -/

theorem settle_newWindow (device : DeviceInRange s.device) :
    ∀ n, s.newWindow = some n → Remains (msToCycles 60000) n := by
  intro n window
  unfold State.newWindow at window
  split at window
  · exact nomatch window
  · next positive =>
    cases window
    have most := device.settleTime
    have positive := Nat.pos_of_ne_zero positive
    simp only [msToCycles, Config.cyclesPerMs]
    omega

/-- The record of a move rests, whatever the record it is made from. -/
theorem Resting.moved (h : Resting i (s.station i)) (device : DeviceInRange s.device) (r : Radio) :
    Resting i (s.movedRecord i r) :=
  { h with pending := rfl, rate := .inl rfl, settle := settle_newWindow device }

/-- IDLE and HOLDING stay as they are on the new owner (R144). -/
theorem shape_movedRecord (h : StationSound (s.station i)) (r : Radio)
    (state : (s.station i).state = .idle ∨ (s.station i).state = .holding) :
    ShapeOfState (s.movedRecord i r) := by
  rcases state with idle | holding
  · have shape := h.shape_idle idle
    have moved : (s.movedRecord i r).state = .idle := idle
    rwa [ShapeOfState, moved]
  · obtain ⟨queue, -, hold, tag⟩ := h.shape_holding holding
    have moved : (s.movedRecord i r).state = .holding := holding
    rw [ShapeOfState, moved]
    exact ⟨queue, rfl, hold, tag⟩

theorem StationsAgree.moveNow (h : StationsAgree s) (device : DeviceInRange s.device)
    (granted : (s.station i).state ≠ .granted) (admitted : (s.station i).state ≠ .free) (r : Radio) :
    StationsAgree (s.moveNow i r) := by
  have fits := h.fits i
  have apart := h.apart_exitRing i
  have free := (h.ungranted granted).exitRing
  have resting := (fits.resting granted).moved device r
  have tag := fits.sound.untagged granted
  have toReady : (s.station i).queue ≠ [] →
      StationsAgree (((s.exitRing i).setStation i (s.movedRecord i r)).enterReady i) := fun queue =>
    (apart.setStation _).close_enterReady (free.congr fun r => by simp) (by simpa using resting.ready queue rfl tag)
  have stays : (s.station i).state = .idle ∨ (s.station i).state = .holding →
      StationsAgree ((s.exitRing i).setStation i (s.movedRecord i r)) := fun state => by
    refine apart.put_off free (resting.fits (shape_movedRecord fits.sound r state) fits.hold) ?_ granted
    rcases state with e | e <;> exact fun ready => nomatch e.symm.trans ready
  unfold State.moveNow
  cases state : (s.station i).state with
  | free => exact absurd state admitted
  | idle => exact stays (.inl state)
  | holding => exact stays (.inr state)
  | ready => exact toReady (fits.sound.shape_ready state).1
  | granted => exact absurd state granted
  | dozing => exact toReady (fits.sound.shape_dozing state).1

/-- A GRANTED station's move waits for the grant's end (R143). -/
theorem StationsAgree.setPending (h : StationsAgree s) {r : Radio} (unmarked : (s.station i).dismissMark = false)
    (pinned : (s.station i).pinned = false) (owner : (s.station i).owner ≠ r)
    (settle : (s.station i).settle = none) (granted : (s.station i).state = .granted) :
    StationsAgree (s.setStation i { s.station i with pendingOwner := some r }) := by
  have fits := h.fits i
  refine h.setStation ?_ rfl rfl (fun _ => rfl) fun _ => ⟨rfl, rfl⟩
  exact { fits with
    sound := { fits.sound with
      shape := shape_of_granted granted (fits.sound.shape_granted granted)
      granted := fun _ => granted
      exclusive := fun both => by simp [unmarked] at both
      pending := fun _ => ⟨fun e => owner (Option.some.inj e).symm, pinned, settle⟩ } }

theorem StationsAgree.steerTaken (h : StationsAgree s) (device : DeviceInRange s.device) (index : BitVec 16)
    (target : BitVec 2) : StationsAgree (Machine.steerTaken index target s) := by
  refine steerTaken_keeps (h.replyHeader ..) (fun _ _ => h.reply ..) ?_ ?_
  · intro i r admitted pinned owner _ settle granted
    exact (h.setPending admitted.2 pinned owner settle granted).reply ..
  · intro i r admitted _ _ _ _ granted
    exact (h.moveNow device granted admitted.1 r).reply ..

/-! ### NOTE -/

/-- Writing the power of a station whose state does not depend on it (R134). -/
theorem StationsAgree.setPower (h : StationsAgree s) {p : Power} (admitted : (s.station i).state ≠ .free)
    (same : (s.station i).state = .holding ∨ (s.station i).state = .ready → p = .awake)
    (dozing : (s.station i).state = .dozing → p = .doze) :
    StationsAgree (s.setStation i { s.station i with power := p }) := by
  have fits := h.fits i
  refine h.setStation ?_ rfl rfl (fun _ => rfl) fun _ => ⟨rfl, rfl⟩
  refine { fits with sound := { fits.sound with shape := ?_ } }
  unfold ShapeOfState
  cases state : (s.station i).state with
  | free => exact absurd state admitted
  | idle => exact fits.sound.shape_idle state
  | holding =>
    obtain ⟨queue, -, rest⟩ := fits.sound.shape_holding state
    exact ⟨queue, same (.inl state), rest⟩
  | ready =>
    obtain ⟨queue, -, rest⟩ := fits.sound.shape_ready state
    exact ⟨queue, same (.inr state), rest⟩
  | granted => exact fits.sound.shape_granted state
  | dozing =>
    obtain ⟨queue, -, rest⟩ := fits.sound.shape_dozing state
    exact ⟨queue, dozing state, rest⟩

theorem StationsAgree.notePower (h : StationsAgree s) (admitted : (s.station i).state ≠ .free) (p : Power) :
    StationsAgree (s.notePower i p) := by
  have fits := h.fits i
  cases p with
  | doze =>
    by_cases queued : (s.station i).state = .holding ∨ (s.station i).state = .ready
    · have granted : (s.station i).state ≠ .granted := by rcases queued with e | e <;> simp [e]
      have queue : (s.station i).queue ≠ [] := by
        rcases queued with e | e
        · exact (fits.sound.shape_holding e).1
        · exact (fits.sound.shape_ready e).1
      have resting : Resting i { s.station i with power := .doze } := { fits.resting granted with }
      have put := (h.apart_exitRing i).put_off (h.ungranted granted).exitRing
        (resting.dozing queue rfl (fits.sound.untagged granted)) (fun e => nomatch e) fun e => nomatch e
      rw [State.notePower_doze_queued queued]
      exact put
    · have other : (s.station i).state = .idle ∨ (s.station i).state = .dozing ∨
          (s.station i).state = .granted := by
        cases state : (s.station i).state <;> simp [state] at admitted queued ⊢
      rw [State.notePower_doze_other other]
      exact h.setPower admitted (fun e => absurd e queued) fun _ => rfl
  | awake =>
    by_cases dozing : (s.station i).state = .dozing
    · have granted : (s.station i).state ≠ .granted := by simp [dozing]
      have resting : Resting i { s.station i with power := .awake } := { fits.resting granted with }
      unfold State.notePower
      rw [dozing]
      exact ((h.apart (by simp [dozing])).setStation _).close_enterReady
        ((h.ungranted granted).congr fun r => by simp)
        (by simpa using resting.ready (fits.sound.shape_dozing dozing).1 rfl (fits.sound.untagged granted))
    · rw [State.notePower_awake_other dozing]
      exact h.setPower admitted (fun _ => rfl) fun e => absurd e dozing

theorem StationsAgree.noteStation (h : StationsAgree s) (admitted : (s.station i).state ≠ .free)
    (power : PowerPart) (rate : BitVec 16) : StationsAgree (s.noteStation i power rate) := by
  have rated := h.setRate admitted (rate_noteRate (h.fits i).sound.rate rate)
  unfold State.noteStation
  simp only
  split
  · exact rated.notePower (by simpa using admitted) _
  · exact rated

theorem StationsAgree.noteTaken (h : StationsAgree s) (r : Radio) (index : BitVec 16) (power : BitVec 2)
    (rate : BitVec 16) : StationsAgree (Machine.noteTaken r index power rate s) := by
  unfold Machine.noteTaken
  split
  · exact h.refuseMalformed ..
  split
  · exact h.refuseRadio ..
  split
  · exact h.refuseRadio ..
  next admitted =>
  split
  · exact h.refuseRadio ..
  · exact (h.noteStation admitted _ _).answer (.radio r) _

/-! ### The expiries of a station's timers -/

theorem StationsAgree.holdExpiry (h : StationsAgree s) (due : (s.station i).holdDue = true) :
    StationsAgree (s.enterReady i) := by
  obtain ⟨holding, -⟩ := (Station.holdDue_iff _).1 due
  have fits := h.fits i
  have granted : (s.station i).state ≠ .granted := by simp [holding]
  obtain ⟨queue, power, -, tag⟩ := fits.sound.shape_holding holding
  exact (h.apart (by simp [holding])).close_enterReady (h.ungranted granted)
    ((fits.resting granted).ready queue power tag)

theorem StationsAgree.settleExpiry (h : StationsAgree s) (due : (s.station i).settleDue = true) :
    StationsAgree (s.setStation i { s.station i with settle := none }) := by
  have fits := h.fits i
  obtain ⟨n, settle, -⟩ := (Station.settleDue_iff _).1 due
  have admitted : (s.station i).state ≠ .free := fun free => by
    rw [fits.sound.shape_free free] at settle
    exact nomatch settle
  refine h.setStation ?_ rfl rfl (fun _ => rfl) fun _ => ⟨rfl, rfl⟩
  exact {
    sound := { fits.sound with
      shape := shape_of_same fits.sound.shape admitted rfl rfl rfl rfl rfl
      pending := fun owner => by
        obtain ⟨other, pinned, -⟩ := fits.sound.pending owner
        exact ⟨other, pinned, rfl⟩ }
    queued := fits.queued
    hold := fits.hold
    settle := fun _ window => nomatch window }

end Sys2Proof.Safety
end

section
/-! QUEUE keeps stations, rings and grants in agreement (R48 to R51, R24). -/

namespace Sys2Proof.Safety

open Machine

variable {i : StationIndex} {s t u : State}

/-! ### Accepted entries -/

/-- Slots of a station joined the tail of its queue; of the rest, flags alone changed. -/
structure GrownBy (i : StationIndex) (added : List Slot) (s u : State) : Prop extends s.StationWork u where
  slots : ∀ f ∈ added, SlotOf i f
  self : u.station i = { s.station i with queue := (s.station i).queue ++ added }
  others : ∀ j, j ≠ i → u.station j = s.station j
  rings : ∀ r, (u.radio r).rings = (s.radio r).rings
  released : u.releaseList = s.releaseList

theorem GrownBy.refl (i : StationIndex) (s : State) : GrownBy i [] s s where
  toStationWork := .refl s
  slots _ hf := nomatch hf
  self := by rw [List.append_nil]
  others _ _ := rfl
  rings _ := rfl
  released := rfl

theorem GrownBy.trans {added more : List Slot} (h : GrownBy i added s t) (h' : GrownBy i more t u) :
    GrownBy i (added ++ more) s u where
  toStationWork := h.toStationWork.trans h'.toStationWork
  slots f hf := (List.mem_append.1 hf).elim (h.slots f) (h'.slots f)
  self := by rw [h'.self, h.self, List.append_assoc]
  others j hj := by rw [h'.others j hj, h.others j hj]
  rings r := by rw [h'.rings, h.rings]
  released := by rw [h'.released, h.released]

/-- The slot an accepted entry takes. -/
def acceptedSlot (s : State) (i : StationIndex) (e : QueueEntry) : Slot :=
  ⟨e.handle, e.length.toNat, i, s.msClock, 0⟩

theorem accepted_of_done {e : QueueEntry} (h : s.entryOutcome i e = .done) :
    (s.station i).actionable = true ∧ SlotOf i (acceptedSlot s i e) := by
  unfold State.entryOutcome at h
  split at h
  · exact nomatch h
  next actionable =>
  split at h
  · exact nomatch h
  next length =>
  rw [not_or, Nat.not_lt] at length
  exact ⟨by simpa using actionable, rfl, ⟨Nat.pos_of_ne_zero length.1, length.2⟩, Nat.zero_le _⟩

theorem grownBy_acceptEntry {e : QueueEntry} (slot : SlotOf i (acceptedSlot s i e)) :
    GrownBy i [acceptedSlot s i e] s (s.acceptEntry i e) where
  toStationWork := .acceptEntry ..
  slots f hf := List.mem_singleton.1 hf ▸ slot
  self := by simp [State.acceptEntry, acceptedSlot]
  others j hj := by simp [State.acceptEntry, State.station_setStation_ne s _ hj.symm]
  rings r := by simp [State.acceptEntry]
  released := by simp [State.acceptEntry]

theorem evaluateEntries_grown (i : StationIndex) (es : List QueueEntry) (s : State) :
    ∃ added, GrownBy i added s (s.evaluateEntries i es).1 ∧
      (Code.done ∈ (s.evaluateEntries i es).2 ↔ added ≠ []) ∧
      (added ≠ [] → (s.station i).actionable = true) := by
  induction es generalizing s with
  | nil => exact ⟨[], .refl i s, by simp [State.evaluateEntries], fun none => absurd rfl none⟩
  | cons e es ih =>
    by_cases accepted : s.entryOutcome i e = .done
    · obtain ⟨actionable, slot⟩ := accepted_of_done accepted
      obtain ⟨added, grown, -, -⟩ := ih (s.acceptEntry i e)
      refine ⟨[acceptedSlot s i e] ++ added, (grownBy_acceptEntry slot).trans ?_, ?_, fun _ => actionable⟩
      · simpa [State.evaluateEntries, accepted] using grown
      · simp [State.evaluateEntries, accepted]
    · obtain ⟨added, grown, done, actionable⟩ := ih s
      refine ⟨added, ?_, ?_, actionable⟩
      · simpa [State.evaluateEntries, accepted] using grown
      · simpa [State.evaluateEntries, accepted, Ne.symm accepted] using done

/-! ### The station told of them -/

theorem GrownBy.apart {added : List Slot} (grown : GrownBy i added s u) (h : Apart i s) : Apart i u :=
  h.congr grown.others (fun r g => by rw [RadioUnit.ring, grown.rings, RadioUnit.ring])
    (fun r => by rw [grown.radio r]) (grown.released ▸ h.released)

theorem GrownBy.ungranted {added : List Slot} (grown : GrownBy i added s u) (h : Ungranted i s) : Ungranted i u :=
  h.congr fun r => by rw [grown.radio r]

theorem GrownBy.resting {added : List Slot} (grown : GrownBy i added s u) (h : Resting i (s.station i)) :
    Resting i (u.station i) := by
  rw [grown.self]
  exact { h with queued := fun f hf => (List.mem_append.1 hf).elim (h.queued f) (grown.slots f) }

/-- A longer queue leaves a station that is not IDLE where it stands. -/
theorem GrownBy.agree_standing {added : List Slot} (grown : GrownBy i added s u) (h : StationsAgree s)
    (admitted : Spec.admitted (s.station i)) (idle : (s.station i).state ≠ .idle) : StationsAgree u := by
  have fits := h.fits i
  have shape : ShapeOfState { s.station i with queue := (s.station i).queue ++ added } := by
    unfold ShapeOfState
    cases state : (s.station i).state with
    | free => exact absurd state admitted.1
    | idle => exact absurd state idle
    | holding =>
      obtain ⟨queue, rest⟩ := fits.sound.shape_holding state
      exact ⟨fun e => queue (List.append_eq_nil_iff.1 e).1, rest⟩
    | ready =>
      obtain ⟨queue, rest⟩ := fits.sound.shape_ready state
      exact ⟨fun e => queue (List.append_eq_nil_iff.1 e).1, rest⟩
    | granted => exact fits.sound.shape_granted state
    | dozing =>
      obtain ⟨queue, rest⟩ := fits.sound.shape_dozing state
      exact ⟨fun e => queue (List.append_eq_nil_iff.1 e).1, rest⟩
  refine h.update (i := i) grown.others ?_ (by rw [grown.self]) (by rw [grown.self]) (fun _ => by rw [grown.self])
    (fun _ => by rw [grown.self]; exact ⟨rfl, rfl⟩)
    (fun r g => by rw [RadioUnit.ring, grown.rings, RadioUnit.ring]) (fun r => by rw [grown.radio r])
    (grown.released ▸ h.released)
  rw [grown.self]
  exact {
    sound := { fits.sound with
      shape := shape
      marked := fun mark => by simp [admitted.2] at mark }
    queued := fun f hf => (List.mem_append.1 hf).elim (fits.queued f) (grown.slots f)
    hold := fits.hold
    settle := fits.settle }

/-- Nothing was accepted. -/
theorem GrownBy.agree_nothing (grown : GrownBy i [] s u) (h : StationsAgree s) : StationsAgree u :=
  h.congr (fun j => by
      by_cases hj : j = i
      · subst hj
        rw [grown.self, List.append_nil]
      · exact grown.others j hj)
    (fun r g => by rw [RadioUnit.ring, grown.rings, RadioUnit.ring]) (fun r => by rw [grown.radio r])
    (grown.released ▸ h.released)

section
variable {added : List Slot}

theorem GrownBy.queue_ne_nil (grown : GrownBy i added s u) (nonempty : added ≠ []) : (u.station i).queue ≠ [] := by
  rw [grown.self]
  exact fun e => nonempty (List.append_eq_nil_iff.1 e).2

/-- An awake station that was IDLE or HOLDING enters READY (R24). -/
theorem GrownBy.agree_enterReady (grown : GrownBy i added s u) (h : StationsAgree s) (nonempty : added ≠ [])
    (place : (s.station i).state = .idle ∨ (s.station i).state = .holding) (awake : (u.station i).power = .awake) :
    StationsAgree (u.enterReady i) := by
  have ready : (s.station i).state ≠ .ready := by rcases place with e | e <;> simp [e]
  have granted : (s.station i).state ≠ .granted := by rcases place with e | e <;> simp [e]
  refine (grown.apart (h.apart ready)).close_enterReady (grown.ungranted (h.ungranted granted)) ?_
  exact (grown.resting ((h.fits i).resting granted)).ready (grown.queue_ne_nil nonempty) awake
    (by rw [grown.self]; exact (h.fits i).sound.untagged granted)

/-- The IDLE row of R24. -/
theorem GrownBy.agree_idle (grown : GrownBy i added s u) (h : StationsAgree s) (nonempty : added ≠ [])
    (profile : ProfileInRange s.profile) (idle : (s.station i).state = .idle) : StationsAgree (u.queueGrew i) := by
  have state : (u.station i).state = .idle := by rw [grown.self]; exact idle
  have granted : (s.station i).state ≠ .granted := by simp [idle]
  have apart := grown.apart (h.apart (i := i) (by simp [idle]))
  have free := grown.ungranted (h.ungranted granted)
  have resting := grown.resting ((h.fits i).resting granted)
  have queue := grown.queue_ne_nil nonempty
  obtain ⟨-, hold, tag⟩ := (h.fits i).sound.shape_idle idle
  have untagged : (u.station i).grantTag = none := by rw [grown.self]; exact tag
  have unheld : (u.station i).hold = none := by rw [grown.self]; exact hold
  unfold State.queueGrew
  simp only [state]
  split
  · next doze =>
    refine apart.put_off free ?_ (fun e => nomatch e) fun e => nomatch e
    have dozing := resting.dozing queue doze untagged
    rwa [← unheld] at dozing
  next notDoze =>
  have awake : (u.station i).power = .awake := by
    cases hp : (u.station i).power with
    | awake => rfl
    | doze => exact absurd hp notDoze
  split
  · exact grown.agree_enterReady h nonempty (.inl idle) awake
  next wait =>
  rw [not_or] at wait
  refine apart.put_off free ?_ (fun e => nomatch e) fun e => nomatch e
  refine Resting.fits { resting with } ⟨queue, awake, rfl, untagged⟩ fun n hn => ?_
  have group : GroupInRange (u.groupOfStation i) := by
    rw [State.groupOfStation, State.group, grown.profile]
    exact profile _
  cases hn
  have positive := Nat.pos_of_ne_zero wait.1
  have most := group.holdTime
  simp only [usToCycles, Config.cyclesPerUs]
  omega

theorem GrownBy.agree_queueGrew (grown : GrownBy i added s u) (h : StationsAgree s) (nonempty : added ≠ [])
    (profile : ProfileInRange s.profile) (admitted : Spec.admitted (s.station i)) :
    StationsAgree (u.queueGrew i) := by
  have state : (u.station i).state = (s.station i).state := by rw [grown.self]
  cases place : (s.station i).state with
  | idle => exact grown.agree_idle h nonempty profile place
  | holding =>
    unfold State.queueGrew
    simp only [state, place]
    split
    · exact grown.agree_enterReady h nonempty (.inr place)
        (by rw [grown.self]; exact ((h.fits i).sound.shape_holding place).2.1)
    · exact grown.agree_standing h admitted (by simp [place])
  | free => exact absurd place admitted.1
  | ready | granted | dozing =>
    unfold State.queueGrew
    simp only [state, place]
    exact grown.agree_standing h admitted (by simp [place])

end

theorem StationsAgree.queueTaken (h : StationsAgree s) (profile : ProfileInRange s.profile) (index : BitVec 16)
    (es : List QueueEntry) : StationsAgree (Machine.queueTaken index es s) := by
  unfold Machine.queueTaken
  split
  · exact h.refuseMalformed ..
  split
  · exact h.replyHeader ..
  next i _ =>
  split
  · exact h.replyHeader ..
  · refine StationsAgree.reply ?_ _ _ _
    obtain ⟨added, grown, done, actionable⟩ := evaluateEntries_grown i es s
    unfold State.queueEntries
    simp only
    by_cases accepted : added = []
    · rw [if_neg (fun e => done.1 e accepted)]
      exact (accepted ▸ grown).agree_nothing h
    · rw [if_pos (done.2 accepted)]
      exact grown.agree_queueGrew h accepted profile ((Station.actionable_iff_admitted _).1 (actionable accepted))

end Sys2Proof.Safety
end

section
/-! Grant ends keep stations, rings and grants in agreement (R111, R25): the grant's station is taken apart, its
record is settled, the grant's record is freed, and the hand-over puts the station back. -/

namespace Sys2Proof.Machine

/-! ### The record of a grant is freed before or after the hand-over -/

variable {s : State} {r : Radio} {tag : Byte} {i : StationIndex}

theorem State.dropGrant_setStation (st : Station) :
    (s.setStation i st).dropGrant r tag = (s.dropGrant r tag).setStation i st := by
  cases r <;> rfl

theorem State.dropGrant_raise (k : EventKind) : (s.raise k).dropGrant r tag = (s.dropGrant r tag).raise k := by
  cases r <;> rfl

theorem State.dropGrant_station : (s.dropGrant r tag).station i = s.station i := by
  cases r <;> rfl

theorem State.dropGrant_enterReady : (s.enterReady i).dropGrant r tag = (s.dropGrant r tag).enterReady i := by
  unfold State.enterReady
  rw [State.dropGrant_station, ← State.dropGrant_setStation]
  generalize s.setStation i _ = t
  generalize (s.station i).owner = q
  cases r <;> cases q <;> rfl

theorem State.dropGrant_applyPending :
    (s.applyPending i).dropGrant r tag = (s.dropGrant r tag).applyPending i := by
  have record : ∀ q, (s.dropGrant r tag).movedRecord i q = s.movedRecord i q := fun q => by cases r <;> rfl
  cases pending : (s.station i).pendingOwner with
  | none =>
    rw [State.applyPending_none pending, State.applyPending_none (by rwa [State.dropGrant_station])]
  | some q =>
    rw [State.applyPending_some pending, State.applyPending_some (r := q) (by rwa [State.dropGrant_station]),
      record, State.dropGrant_raise, State.dropGrant_setStation]

theorem State.dropGrant_chooseNext : (s.chooseNext i).dropGrant r tag = (s.dropGrant r tag).chooseNext i := by
  unfold State.chooseNext
  rw [State.dropGrant_station]
  split
  · exact State.dropGrant_setStation _
  · split
    · exact State.dropGrant_setStation _
    · exact State.dropGrant_enterReady

theorem State.dropGrant_handOver : (s.handOver i).dropGrant r tag = (s.dropGrant r tag).handOver i := by
  cases mark : (s.station i).dismissMark with
  | true =>
    rw [State.handOver_marked mark, State.handOver_marked (by rwa [State.dropGrant_station]), State.dropGrant_raise,
      State.dropGrant_setStation, State.dropGrant_station]
  | false =>
    rw [State.handOver_unmarked mark, State.handOver_unmarked (by rwa [State.dropGrant_station]),
      State.dropGrant_chooseNext, State.dropGrant_applyPending, State.dropGrant_setStation, State.dropGrant_station]

end Sys2Proof.Machine

namespace Sys2Proof.Safety

open Machine

variable {i : StationIndex} {s t u : State} {r : Radio} {g : Grant}

/-! ### The grant's record freed -/

/-- Two grants of a radio under one tag are one grant. -/
theorem grant_eq_of_tag {gs : List Grant} (tags : (gs.map (·.tag)).Nodup) {g g' : Grant} (hg : g ∈ gs)
    (hg' : g' ∈ gs) (tag : g'.tag = g.tag) : g' = g :=
  List.inj_on_of_nodup_map tags hg' hg tag

theorem not_mem_dropGrant (tags : ((s.radio r).grants.map (·.tag)).Nodup) {g' : Grant}
    (h : g' ∈ ((s.dropGrant r g.tag).radio r).grants) : g'.tag ≠ g.tag := by
  rw [State.dropGrant_grants] at h
  generalize (s.radio r).grants = gs at h tags
  induction gs with
  | nil => exact nomatch h
  | cons a gs ih =>
    rw [List.map_cons, List.nodup_cons] at tags
    by_cases ha : a.tag = g.tag
    · rw [List.eraseP_cons_of_pos (by simpa using ha)] at h
      exact fun e => tags.1 (List.mem_map.2 ⟨g', h, e.trans ha.symm⟩)
    · rw [List.eraseP_cons_of_neg (by simpa using ha), List.mem_cons] at h
      rcases h with rfl | h
      · exact ha
      · exact ih h tags.2

theorem mem_of_mem_dropGrant {q : Radio} {g' : Grant} (h : g' ∈ ((s.dropGrant r g.tag).radio q).grants) :
    g' ∈ (s.radio q).grants := by
  by_cases hq : q = r
  · subst hq
    rw [State.dropGrant_grants] at h
    exact List.mem_of_mem_eraseP h
  · rwa [State.dropGrant, State.radio_setRadio_ne _ _ (Ne.symm hq)] at h

theorem mem_dropGrant {q : Radio} {g' : Grant} (h : g' ∈ (s.radio q).grants) (other : q = r → g'.tag ≠ g.tag) :
    g' ∈ ((s.dropGrant r g.tag).radio q).grants := by
  by_cases hq : q = r
  · rw [hq, State.dropGrant_grants]
    exact (List.mem_eraseP_of_neg (by simpa using other hq)).2 (hq ▸ h)
  · rwa [State.dropGrant, State.radio_setRadio_ne _ _ (Ne.symm hq)]

theorem dropGrant_ring (q : Radio) (k : GroupIndex) (tag : Byte) :
    ((s.dropGrant r tag).radio q).ring k = (s.radio q).ring k := by
  cases r <;> cases q <;> rfl

/-- The station of a grant stays apart when the grant's record is freed. -/
theorem Apart.dropGrant (h : Apart i s) (hg : g ∈ (s.radio r).grants) (station : g.station = i) :
    Apart i (s.dropGrant r g.tag) where
  fits j hj := by rw [State.dropGrant_station]; exact h.fits j hj
  member q k j := by rw [dropGrant_ring, State.dropGrant_station]; exact h.member q k j
  once q k := by rw [dropGrant_ring]; exact h.once q k
  grants q g' hg' hne := by
    exact (h.grants q g' (mem_of_mem_dropGrant hg') hne).congr (by rw [State.dropGrant_station])
      (by rw [State.dropGrant_station]) (by rw [State.dropGrant_station]) (by rw [State.dropGrant_station])
  named j hj granted := by
    rw [State.dropGrant_station] at granted ⊢
    obtain ⟨g', hg', names⟩ := h.named j hj granted
    refine ⟨g', mem_dropGrant hg' fun place tag => ?_, names⟩
    have same : g' = g := grant_eq_of_tag (h.tags r) hg (place ▸ hg') tag
    exact hj (names ▸ same ▸ station)
  tags q := by
    by_cases hq : q = r
    · subst hq
      rw [State.dropGrant_grants]
      exact (List.eraseP_sublist.map _).nodup (h.tags q)
    · rw [State.dropGrant, State.radio_setRadio_ne _ _ (Ne.symm hq)]
      exact h.tags q
  released n hn := h.released n (by simpa [State.dropGrant] using hn)

/-- No other grant names the station of a grant. -/
theorem StationsAgree.grant_unique (h : StationsAgree s) (hg : g ∈ (s.radio r).grants) {q : Radio} {g' : Grant}
    (hg' : g' ∈ (s.radio q).grants) (station : g'.station = g.station) : q = r ∧ g' = g := by
  have sound := (h.grants r g hg).sound
  have sound' := (h.grants q g' hg').sound
  have radio : q = r := by rw [← sound'.owner, ← sound.owner, station]
  subst radio
  have tag : some g'.tag = some g.tag := by rw [← sound'.tag, ← sound.tag, station]
  exact ⟨rfl, grant_eq_of_tag (h.tags q) hg hg' (Option.some.inj tag)⟩

theorem StationsAgree.ungranted_dropGrant (h : StationsAgree s) (hg : g ∈ (s.radio r).grants)
    (grants : ∀ q, (t.radio q).grants = (s.radio q).grants) : Ungranted g.station (t.dropGrant r g.tag) := by
  intro q g' hg' station
  have old := mem_of_mem_dropGrant hg'
  rw [grants] at old
  obtain ⟨rfl, rfl⟩ := h.grant_unique hg old station
  exact not_mem_dropGrant (grants q ▸ h.tags q) hg' rfl

/-! ### The hand-over (R25) -/

/-- The record a hand-over chooses the next state for: that of a grant's station, its tag removed. -/
theorem StationFits.untagged {st : Station} (h : StationFits i st) (mark : st.dismissMark = false)
    (pending : st.pendingOwner = none) : Resting i { st with grantTag := none } where
  pending := pending
  mark := mark
  weight := h.sound.weight
  rate := h.sound.rate
  deficit := h.sound.deficit
  queued := h.queued
  settle := h.settle

theorem Apart.chooseNext (h : Apart i s) (free : Ungranted i s) (resting : Resting i (s.station i))
    (tag : (s.station i).grantTag = none) (hold : (s.station i).hold = none) : StationsAgree (s.chooseNext i) := by
  have fits : ∀ state, { s.station i with state := state, hold := none } =
      { s.station i with state := state } := fun state => by rw [← hold]
  unfold State.chooseNext
  split
  · next queue =>
    refine h.put_off free ?_ (fun e => nomatch e) fun e => nomatch e
    rw [← fits]
    exact resting.idle (List.isEmpty_iff.1 queue) tag
  next queue =>
  have queue : (s.station i).queue ≠ [] := fun e => queue (List.isEmpty_iff.2 e)
  split
  · next doze =>
    refine h.put_off free ?_ (fun e => nomatch e) fun e => nomatch e
    rw [← fits]
    exact resting.dozing queue doze tag
  · next notDoze =>
    have awake : (s.station i).power = .awake := by
      cases hp : (s.station i).power with
      | awake => rfl
      | doze => exact absurd hp notDoze
    exact h.close_enterReady free (resting.ready queue awake tag)

theorem Apart.handOver (h : Apart i s) (free : Ungranted i s) (fits : StationFits i (s.station i))
    (granted : (s.station i).state = .granted) (device : DeviceInRange s.device) :
    StationsAgree (s.handOver i) := by
  have hold := (fits.sound.shape_granted granted).1
  cases mark : (s.station i).dismissMark with
  | true =>
    rw [State.handOver_marked mark]
    exact (h.put_off free (fits_vacated i _) (fun e => nomatch e) fun e => nomatch e).raise _
  | false =>
    rw [State.handOver_unmarked mark]
    have apart := h.setStation { s.station i with grantTag := none }
    have free' := free.congr (t := s.setStation i { s.station i with grantTag := none }) fun r => by simp
    cases pending : (s.station i).pendingOwner with
    | none =>
      rw [State.applyPending_none (by simpa using pending)]
      exact apart.chooseNext free' (by simpa using fits.untagged mark pending) (by simp) (by simpa using hold)
    | some q =>
      rw [State.applyPending_some (r := q) (by simpa using pending)]
      have moved : Resting i { s.movedRecord i q with grantTag := none } :=
        { pending := rfl, mark := mark, weight := fits.sound.weight, rate := .inl rfl, deficit := fits.sound.deficit,
          queued := fits.queued, settle := settle_newWindow device }
      have record : ((((s.setStation i { s.station i with grantTag := none }).setStation i
          ((s.setStation i { s.station i with grantTag := none }).movedRecord i q)).raise .steerDone).station i) =
          { s.movedRecord i q with grantTag := none } := by
        rw [State.raise_station, State.station_setStation_self, State.movedRecord, State.station_setStation_self]
        rfl
      refine ((apart.setStation _).raise .steerDone).chooseNext
        (free'.congr fun r => by simp) ?_ ?_ ?_ <;> rw [record]
      · exact moved
      · exact hold

/-! ### The end of a grant -/

/-- The grant's station, settled but still GRANTED, is handed over as the grant's record is freed. -/
theorem StationsAgree.endGrant (h : StationsAgree s) (hg : g ∈ (s.radio r).grants) (apart : Apart g.station t)
    (grants : ∀ q, (t.radio q).grants = (s.radio q).grants) (fits : StationFits g.station (t.station g.station))
    (granted : (t.station g.station).state = .granted) (device : DeviceInRange t.device) :
    StationsAgree ((t.handOver g.station).dropGrant r g.tag) := by
  rw [State.dropGrant_handOver]
  have hg' : g ∈ (t.radio r).grants := by rwa [grants]
  refine (apart.dropGrant hg' rfl).handOver (h.ungranted_dropGrant hg grants) ?_ ?_ ?_
  · rwa [State.dropGrant_station]
  · rwa [State.dropGrant_station]
  · cases r <;> exact device

/-! ### The frames of a grant end (R111 step 1) -/

/-- A retired frame gives a sound notice, a survivor is a slot of its station. -/
def FateSound (i : StationIndex) : Fate → Prop
  | .retired n => NoticeSound n
  | .survives f => SlotOf i f

theorem FateSound.underMark {fate : Fate} (h : FateSound i fate) (mark : Bool) :
    FateSound i (fate.underMark mark) := by
  cases fate with
  | retired n => exact h
  | survives f =>
    cases mark with
    | true => exact SlotOf.notice h .dismissed
    | false => exact h

theorem mem_returns {fates : List Fate} {f : Slot} (h : f ∈ returns fates) : Fate.survives f ∈ fates := by
  obtain ⟨fate, mem, read⟩ := List.mem_filterMap.1 h
  cases fate with
  | retired n => exact nomatch read
  | survives f' => exact Option.some.inj read ▸ mem

theorem mem_retirements {fates : List Fate} {n : Notice} (h : n ∈ retirements fates) :
    Fate.retired n ∈ fates := by
  obtain ⟨fate, mem, read⟩ := List.mem_filterMap.1 h
  cases fate with
  | retired n' => exact Option.some.inj read ▸ mem
  | survives f => exact nomatch read

theorem fateSound_unsent (lent : ∀ f ∈ g.frames, SlotOf i f) : ∀ fate ∈ unsentFates g, FateSound i fate := by
  intro fate h
  rw [unsentFates_eq] at h
  obtain ⟨f, hf, rfl⟩ := List.mem_map.1 h
  exact lent f hf

theorem fateSound_frameFate {limit : Nat} (range : limit ≤ 15) {f : Slot} (slot : SlotOf i f)
    (outcome : FrameOutcome) : FateSound i (frameFate limit f outcome) := by
  have retry := slot.retry
  cases outcome with
  | delivered => exact slot.notice .delivered
  | unsent => exact slot
  | failed =>
    unfold frameFate
    simp only
    split
    · next reached =>
      refine ⟨slot.length, ?_⟩
      show f.retry + 1 ≤ 14 ∨ f.retry + 1 = 15 ∧ _
      rcases Nat.lt_or_ge f.retry 14 with below | atLimit
      · exact .inl below
      · exact .inr ⟨by omega, rfl⟩
    · next short => exact ⟨slot.station, slot.length, show f.retry + 1 ≤ 14 by omega⟩

theorem fateSound_report {limit : Nat} (range : limit ≤ 15) (lent : ∀ f ∈ g.frames, SlotOf i f)
    (outcomes : List FrameOutcome) : ∀ fate ∈ reportFates limit g outcomes, FateSound i fate := by
  intro fate h
  unfold reportFates at h
  obtain ⟨k, hk, rfl⟩ := List.getElem_of_mem h
  rw [List.getElem_zipWith]
  exact fateSound_frameFate range (lent _ (List.getElem_mem _)) _

/-- What a grant end has after its first step: the station apart, its record sound and still GRANTED. -/
structure Settled (g : Grant) (s u : State) : Prop where
  apart : Apart g.station u
  fits : StationFits g.station (u.station g.station)
  granted : (u.station g.station).state = .granted
  deficit : (u.station g.station).deficit = (s.station g.station).deficit
  grants : ∀ q, (u.radio q).grants = (s.radio q).grants
  device : u.device = s.device

theorem StationsAgree.settled (h : StationsAgree s) (hg : g ∈ (s.radio r).grants) {fates : List Fate}
    (sound : ∀ fate ∈ fates, FateSound g.station fate) : Settled g s (s.settleFrames g.station fates) := by
  have granted := (h.grants r g hg).sound.granted
  have fits := h.fits g.station
  have marked : ∀ fate ∈ fates.map (Fate.underMark (s.station g.station).dismissMark),
      FateSound g.station fate := by
    intro fate hfate
    obtain ⟨fate', mem, rfl⟩ := List.mem_map.1 hfate
    exact (sound fate' mem).underMark _
  have work := State.StationWork.settleFrames s g.station fates
  have record : (s.settleFrames g.station fates).station g.station =
      { s.station g.station with
        queue := returns (fates.map (Fate.underMark (s.station g.station).dismissMark)) ++
          (s.station g.station).queue } := by
    simp [State.settleFrames, State.returnSlots]
  refine ⟨?_, ?_, by rw [record]; exact granted, by rw [record], fun q => by rw [work.radio q], work.device⟩
  · exact ((h.apart (by simp [granted])).setStation _).retireAll fun n hn => marked _ (mem_retirements hn)
  · rw [record]
    exact {
      sound := { fits.sound with
        shape := shape_of_granted granted (fits.sound.shape_granted granted)
        marked := fun mark => by
          rw [mark, returns_underMark_true]
          exact fits.sound.marked mark }
      queued := fun f hf => (List.mem_append.1 hf).elim (fun hf => marked _ (mem_returns hf)) (fits.queued f)
      hold := fits.hold
      settle := fits.settle }

/-! ### WITHDRAW, REPORT and the timeout -/

theorem StationsAgree.endWithdrawn (h : StationsAgree s) (device : DeviceInRange s.device)
    (hg : g ∈ (s.radio r).grants) : StationsAgree (s.endWithdrawn r g) := by
  have grant := h.grants r g hg
  obtain ⟨apart, fits, granted, deficit, grants, sameDevice⟩ := h.settled hg (fateSound_unsent grant.lent)
  unfold State.endWithdrawn
  generalize s.settleFrames g.station (unsentFates g) = u at apart fits granted deficit grants sameDevice
  have work := State.EndWork.refundCounter (r := r) (u.setStation g.station { u.station g.station with
    deficit := (u.station g.station).deficit + g.estimate }) g.group g.pass g.estimate
  have record : (u.refundGrant r g).station g.station =
      { u.station g.station with deficit := (u.station g.station).deficit + g.estimate } := by
    simp [State.refundGrant]
  refine h.endGrant hg ((apart.setStation _).refundCounter ..) (fun q => ?_) ?_ ?_ ?_
  · rw [State.refundGrant, work.grants, State.setStation_radio, grants]
  · rw [record]
    refine { fits with sound := { fits.sound with shape := ?_, deficit := ?_ } }
    · exact shape_of_granted granted (fits.sound.shape_granted granted)
    · have before := grant.sound.before
      show -16383 ≤ (u.station g.station).deficit + g.estimate ∧
        (u.station g.station).deficit + g.estimate ≤ 16383
      rw [deficit]
      omega
  · rw [record]
    exact granted
  · rw [State.refundGrant, work.device]
    exact sameDevice ▸ device

theorem StationsAgree.endReported (h : StationsAgree s) (device : DeviceInRange s.device)
    (profile : ProfileInRange s.profile) (hg : g ∈ (s.radio r).grants) {actual : Nat}
    (most : actual ≤ Config.airtimeMax) (rate : BitVec 16) (outcomes : List FrameOutcome) :
    StationsAgree (s.endReported r g actual rate outcomes) := by
  have grant := h.grants r g hg
  have sound := fateSound_report (profile g.group).retryLimit.2 grant.lent outcomes
  obtain ⟨apart, fits, granted, deficit, grants, sameDevice⟩ := h.settled hg sound
  unfold State.endReported
  simp only
  rw [State.group]
  generalize reportFates _ g outcomes = fates at apart fits granted deficit grants sameDevice ⊢
  generalize s.settleFrames g.station fates = u at apart fits granted deficit grants sameDevice
  have work := State.EndWork.correctCounter (r := r) u g.group g.pass actual g.estimate
  rw [State.correctCounter_station]
  refine h.endGrant hg ((apart.correctCounter ..).setStation _) (fun q => ?_) ?_ ?_ ?_
  · rw [State.setStation_radio, work.grants, grants]
  · rw [State.station_setStation_self]
    refine {
      sound := { fits.sound with shape := ?_, deficit := ?_, rate := rate_noteRate fits.sound.rate rate, pending := ?_ }
      queued := fits.queued
      hold := fits.hold
      settle := ?_ }
    · exact shape_of_granted granted (fits.sound.shape_granted granted)
    · intro pending
      obtain ⟨other, pinned, settle⟩ := fits.sound.pending pending
      refine ⟨other, pinned, ?_⟩
      show (if _ then none else (u.station g.station).settle) = none
      rw [settle, ite_self]
    · have before := grant.sound.before
      simp only [Config.airtimeMax] at most
      show -16383 ≤ (u.station g.station).deficit + ((g.estimate : Int) - actual) ∧
        (u.station g.station).deficit + ((g.estimate : Int) - actual) ≤ 16383
      rw [deficit]
      omega
    · intro n settle
      refine fits.settle n ?_
      change (if _ then none else (u.station g.station).settle) = some n at settle
      split at settle
      · exact nomatch settle
      · exact settle
  · rw [State.station_setStation_self]
    exact granted
  · rw [State.setStation_device, work.device]
    exact sameDevice ▸ device

theorem StationsAgree.endTimedOut (h : StationsAgree s) (device : DeviceInRange s.device)
    (hg : g ∈ (s.radio r).grants) : StationsAgree (s.endTimedOut r g) := by
  have grant := h.grants r g hg
  obtain ⟨apart, fits, granted, -, grants, sameDevice⟩ := h.settled hg (fateSound_unsent grant.lent)
  unfold State.endTimedOut
  simp only
  generalize s.settleFrames g.station (unsentFates g) = u at apart fits granted grants sameDevice
  refine StationsAgree.raise ?_ _
  refine StationsAgree.setRadio ?_ rfl rfl
  refine h.endGrant hg (apart.setStation _) (fun q => ?_) ?_ ?_ ?_
  · rw [State.setStation_radio, grants]
  · rw [State.station_setStation_self]
    exact { fits with
      sound := { fits.sound with shape := shape_of_granted granted (fits.sound.shape_granted granted) } }
  · rw [State.station_setStation_self]
    exact granted
  · rw [State.setStation_device]
    exact sameDevice ▸ device

/-! ### The commands -/

theorem mem_of_findGrant {v : RadioUnit} {tag : Byte} (h : v.findGrant tag = some g) : g ∈ v.grants :=
  List.mem_of_find?_eq_some h

theorem StationsAgree.withdrawTaken (h : StationsAgree s) (device : DeviceInRange s.device) (r : Radio) (tag : Byte) :
    StationsAgree (Machine.withdrawTaken r tag s) := by
  unfold Machine.withdrawTaken
  split
  · exact h.refuseRadio ..
  · next g found => exact (h.endWithdrawn device (mem_of_findGrant found)).answer (.radio r) _

theorem StationsAgree.reportTaken (h : StationsAgree s) (device : DeviceInRange s.device)
    (profile : ProfileInRange s.profile) (r : Radio) (tag : Byte) (airtime rate : BitVec 16)
    (fields : List (BitVec 2)) : StationsAgree (Machine.reportTaken r tag airtime rate fields s) := by
  unfold Machine.reportTaken
  split
  · exact h.refuseRadio ..
  next g found =>
  split
  · exact h.refuseRadio ..
  split
  · exact h.refuseMalformed ..
  · exact (h.endReported device profile (mem_of_findGrant found) (Nat.min_le_right ..) rate _).answer (.radio r) _

theorem StationsAgree.radioLinkReset (h : StationsAgree s) (device : DeviceInRange s.device) (r : Radio) :
    StationsAgree (s.radioLinkReset r) := by
  have ended := State.endGrants_keeps (P := fun u => StationsAgree u ∧ DeviceInRange u.device) (r := r)
    (fun u g gs hu hP => ⟨hP.1.endWithdrawn hP.2 (hu ▸ List.mem_cons_self),
      by rw [(u.endWithdrawn_restKept r g).device]; exact hP.2⟩) ⟨h, device⟩
  refine StationsAgree.raise ?_ _
  exact StationsAgree.setRadio ended.1.1 rfl rfl

theorem StationsAgree.linkStartTaken (h : StationsAgree s) (device : DeviceInRange s.device) (r : Radio) :
    StationsAgree (Machine.linkStartTaken r s) := by
  refine StationsAgree.answer ?_ (.radio r) _
  refine StationsAgree.setRadio ?_ rfl rfl
  split
  · exact h.radioLinkReset device r
  · exact h

end Sys2Proof.Safety
end

section
/-! OFFER keeps stations, rings and grants in agreement (R87 to R99): every visit of the search, and the grant
that may end it. -/

namespace Sys2Proof.Safety

open Machine

variable {i : StationIndex} {s t u : State} {r : Radio} {g : GroupIndex}

/-! ### The head drops of a visit (R92) -/

theorem splitDrops_mem {reason : Slot → Option Reason} {fs : List Slot} :
    (∀ n ∈ (splitDrops reason fs).1, n.slot ∈ fs) ∧ ∀ f ∈ (splitDrops reason fs).2, f ∈ fs := by
  have whole := splitDrops_append reason fs
  constructor
  · intro n hn
    have mem : n.slot ∈ (splitDrops reason fs).1.map (·.slot) ++ (splitDrops reason fs).2 :=
      List.mem_append_left _ (List.mem_map_of_mem hn)
    rwa [whole] at mem
  · intro f hf
    have mem : f ∈ (splitDrops reason fs).1.map (·.slot) ++ (splitDrops reason fs).2 :=
      List.mem_append_right _ hf
    rwa [whole] at mem

/-- A visit's state after its head drops: one queue is shorter, and the dropped slots are retired. -/
structure HeadDropped (i : StationIndex) (s b : State) : Prop extends s.RestKept b where
  others : ∀ j, j ≠ i → b.station j = s.station j
  record : b.station i =
    { s.station i with queue := (b.station i).queue, dropped := (b.station i).dropped }
  queue : ∀ f ∈ (b.station i).queue, f ∈ (s.station i).queue
  radio : ∀ q, b.radio q = s.radio q
  released : ∀ n ∈ b.releaseList, NoticeSound n

theorem StationsAgree.dropFrames (h : StationsAgree s) (i : StationIndex) {drops : List Notice} {kept : List Slot}
    (dropped : ∀ n ∈ drops, n.slot ∈ (s.station i).queue) (stays : ∀ f ∈ kept, f ∈ (s.station i).queue) :
    HeadDropped i s (s.dropFrames i drops kept) where
  toRestKept := (State.StationWork.dropFrames ..).toRestKept
  others j hj := by simp [State.dropFrames, State.station_setStation_ne s _ hj.symm]
  record := by rw [State.dropFrames_station_self]
  queue f hf := stays f (by rwa [State.dropFrames_station_self] at hf)
  radio q := State.dropFrames_radio ..
  released n hn := by
    rw [State.dropFrames_releaseList, List.mem_append] at hn
    exact hn.elim (h.released n) fun hn => ((h.fits i).queued _ (dropped n hn)).notice n.reason

theorem StationsAgree.headDrops (h : StationsAgree s) (r : Radio) (i : StationIndex) :
    HeadDropped i s (s.headDrops r i) :=
  h.dropFrames i splitDrops_mem.1 splitDrops_mem.2

/-! ### The rings of a visit -/

theorem ring_setRing_of_radio {b : State} (radio : ∀ q, b.radio q = s.radio q) (ring : List StationIndex) (q : Radio)
    (k : GroupIndex) : ((b.setRing r g ring).radio q).ring k = ((s.setRing r g ring).radio q).ring k := by
  rw [State.setRing, State.setRing, State.radio_setRadio, State.radio_setRadio, radio, radio]

theorem ring_leaveRing_of_radio {b : State} (radio : ∀ q, b.radio q = s.radio q) (q : Radio) (k : GroupIndex) :
    ((b.leaveRing r g i).radio q).ring k = ((s.leaveRing r g i).radio q).ring k := by
  rw [State.leaveRing, radio]
  exact ring_setRing_of_radio radio _ q k

theorem ring_setRing_perm {ring : List StationIndex} (perm : ring.Perm ((s.radio r).ring g)) (q : Radio)
    (k : GroupIndex) : (((s.setRing r g ring).radio q).ring k).Perm ((s.radio q).ring k) := by
  by_cases same : r = q
  · subst same
    exact s.setRing_perm perm k
  · rw [State.setRing_radio_ne _ _ _ same]

theorem ring_rotateRing_perm {b : State} (radio : ∀ q, b.radio q = s.radio q) (q : Radio) (k : GroupIndex) :
    (((b.rotateRing r g).radio q).ring k).Perm ((s.radio q).ring k) := by
  rw [State.rotateRing, radio, ring_setRing_of_radio radio]
  exact ring_setRing_perm (rotate_perm _) q k

/-- The head of a ring is READY on the ring's radio and in its group, and all its record is that of READY. -/
theorem StationsAgree.head_ready (h : StationsAgree s) {ring : List StationIndex}
    (head : (s.radio r).ring g = i :: ring) :
    (s.station i).state = .ready ∧ (s.station i).owner = r ∧ (s.station i).group = g :=
  (h.rings.member r g i).1 (by rw [head]; exact List.mem_cons_self)

/-- The station of a visit, taken apart by leaving its ring. -/
theorem HeadDropped.apart {b : State} (dropped : HeadDropped i s b) (h : StationsAgree s) {ring : List StationIndex}
    (head : (s.radio r).ring g = i :: ring) : Apart i (b.leaveRing r g i) := by
  obtain ⟨ready, owner, group⟩ := h.head_ready head
  have left := h.apart_leaveRing ready
  rw [owner, group] at left
  refine left.congr (fun j hj => ?_) (ring_leaveRing_of_radio dropped.radio) (fun q => ?_) ?_
  · rw [State.leaveRing_station, State.leaveRing_station, dropped.others j hj]
  · rw [(State.StationWork.leaveRing b r g i).radio, (State.StationWork.leaveRing s r g i).radio, dropped.radio]
  · simpa [State.leaveRing] using dropped.released

theorem HeadDropped.resting {b : State} (dropped : HeadDropped i s b) (h : StationsAgree s)
    (ready : (s.station i).state = .ready) : Resting i (b.station i) := by
  have resting := (h.fits i).resting (by simp [ready])
  rw [dropped.record]
  exact { resting with queued := fun f hf => resting.queued f (dropped.queue f hf) }

/-- A visited station that keeps its place in its ring, with its deficit in range. -/
theorem HeadDropped.agree_ready {b : State} (dropped : HeadDropped i s b) (h : StationsAgree s)
    {ring : List StationIndex} (head : (s.radio r).ring g = i :: ring) (queue : (b.station i).queue ≠ []) {d : Int}
    (range : -16383 ≤ d ∧ d ≤ 16383) (stations : ∀ j, j ≠ i → t.station j = b.station j)
    (record : t.station i = { b.station i with deficit := d })
    (rings : ∀ q k, ((t.radio q).ring k).Perm ((s.radio q).ring k))
    (grants : ∀ q, (t.radio q).grants = (b.radio q).grants) (released : t.releaseList = b.releaseList) :
    StationsAgree t := by
  obtain ⟨ready, -, -⟩ := h.head_ready head
  obtain ⟨-, power, hold, tag⟩ := (h.fits i).sound.shape_ready ready
  have resting := dropped.resting h ready
  refine h.update (i := i) (fun j hj => (stations j hj).trans (dropped.others j hj)) ?_ ?_ ?_ (fun _ => ?_)
    (fun granted => absurd granted (by simp [ready])) rings (fun q => by rw [grants, dropped.radio])
    (released ▸ dropped.released)
  · have fits := Resting.ready (st := { b.station i with deficit := d }) { resting with deficit := range } queue
      (by rw [dropped.record]; exact power) (by rw [dropped.record]; exact tag)
    rw [record]
    have same : { b.station i with deficit := d } =
        { { b.station i with deficit := d } with state := .ready, hold := none } := by
      rw [dropped.record]
      simp [ready, hold]
    rw [same]
    exact fits
  · rw [record, dropped.record]
  · rw [record, dropped.record]
  · rw [record, dropped.record]

/-! ### The steps of a search -/

theorem credit_range {deficit : Int} {group : GroupSettings} {weight : Nat} (low : -16383 ≤ deficit)
    (negative : deficit < 0) (quantum : group.quantum ≤ 4096) (most : weight ≤ 32) :
    -16383 ≤ deficit + effectiveQuantum group.quantum weight ∧
      deficit + effectiveQuantum group.quantum weight ≤ 16383 := by
  have product : group.quantum * weight ≤ 4096 * 32 := Nat.mul_le_mul quantum most
  have bound : effectiveQuantum group.quantum weight ≤ 16384 :=
    Nat.div_le_of_le_mul (by omega)
  omega

theorem StationsAgree.searchStep {offer : Nat} {w v : Walk} (h : StationsAgree w.state)
    (profile : ProfileInRange w.state.profile) (step : Walk.SearchStep r offer w v) : StationsAgree v.state := by
  cases step with
  | skip g =>
    exact h.congr (fun j => by simp) (ring_setRing_perm (skipMarked_perm ..))
      (fun q => by rw [(State.StationWork.setRing ..).radio q]) (by simpa [State.setRing] using h.released)
  | clear => exact h.setRadio rfl rfl
  | @empty g i ring head queue =>
    have dropped := h.headDrops r i
    obtain ⟨ready, -, -⟩ := h.head_ready head
    obtain ⟨-, -, hold, tag⟩ := (h.fits i).sound.shape_ready ready
    have free : Ungranted i ((w.state.headDrops r i).leaveRing r g i) :=
      (h.ungranted (by simp [ready])).congr fun q => by
        rw [(State.StationWork.leaveRing ..).radio q, dropped.radio]
    refine (dropped.apart h head).put_off free ?_ (fun e => nomatch e) fun e => nomatch e
    have idle := (dropped.resting h ready).idle queue (by rw [dropped.record]; exact tag)
    have unheld : ((w.state.headDrops r i).station i).hold = none := by rw [dropped.record]; exact hold
    rwa [← unheld] at idle
  | @credit g i ring f rest head queue deficit =>
    have dropped := h.headDrops r i
    obtain ⟨ready, -, -⟩ := h.head_ready head
    have resting := dropped.resting h ready
    have group : GroupInRange ((w.state.headDrops r i).groupOfStation i) := by
      rw [State.groupOfStation, State.group, dropped.profile]
      exact profile _
    refine dropped.agree_ready h head (by simp [queue])
      (credit_range resting.deficit.1 deficit group.quantum.2 resting.weight.2) (fun j hj => ?_) ?_ (fun q k => ?_)
      (fun q => ?_) ?_
    · simp [State.visitCredit, State.station_setStation_ne _ _ hj.symm, State.rotateRing]
    · rw [State.visitCredit, State.station_setStation_self]
    · rw [State.visitCredit, State.setStation_radio]
      exact ring_rotateRing_perm dropped.radio q k
    · rw [(State.StationWork.visitCredit ..).radio q]
    · simp [State.visitCredit, State.rotateRing, State.setRing]
  | @passOver pass g i ring f rest head queue deficit exceeds =>
    have dropped := h.headDrops r i
    obtain ⟨ready, -, -⟩ := h.head_ready head
    refine dropped.agree_ready h head (by simp [queue]) (dropped.resting h ready).deficit (fun j hj => ?_) ?_
      (fun q k => ?_) (fun q => ?_) ?_
    · simp [State.visitPassOver, State.rotateRing]
    · simp [State.visitPassOver, State.rotateRing]
    · have rotated := ring_rotateRing_perm (r := r) (g := g) dropped.radio q k
      unfold State.visitPassOver
      simp only
      rw [State.radio_setRadio]
      split
      · next same => subst same; exact rotated
      · exact rotated
    · unfold State.visitPassOver
      simp only
      rw [State.radio_setRadio]
      split
      · next same => subst same; rw [(State.StationWork.rotateRing ..).radio r]
      · rw [(State.StationWork.rotateRing ..).radio q]
    · simp [State.visitPassOver, State.rotateRing, State.setRing]

theorem StationsAgree.search {offer : Nat} {w v : Walk} (h : StationsAgree w.state)
    (profile : ProfileInRange w.state.profile) (search : Walk.Search r offer w v) : StationsAgree v.state := by
  induction search with
  | refl => exact h
  | tail before step ih =>
    exact ih.searchStep (by rw [(Walk.Search.searched before).profile]; exact profile) step

/-! ### The grant (R96 to R99) -/

theorem selectFrames_mem {reason : Slot → Option Reason} {time : Slot → Nat} {fits : Nat → Bool} (n sum : Nat)
    (fs : List Slot) :
    (∀ f ∈ (selectFrames reason time fits n sum fs).taken, f ∈ fs) ∧
      (∀ d ∈ (selectFrames reason time fits n sum fs).drops, d.slot ∈ fs) ∧
      ∀ f ∈ (selectFrames reason time fits n sum fs).kept, f ∈ fs := by
  induction fs generalizing n sum with
  | nil => simp [selectFrames]
  | cons f fs ih =>
    unfold selectFrames
    split
    · obtain ⟨taken, drops, kept⟩ := ih n sum
      refine ⟨fun x hx => List.mem_cons_of_mem _ (taken x hx), fun d hd => ?_,
        fun x hx => List.mem_cons_of_mem _ (kept x hx)⟩
      rcases List.mem_cons.1 hd with rfl | hd
      · exact List.mem_cons_self
      · exact List.mem_cons_of_mem _ (drops d hd)
    split
    · exact ⟨fun x hx => (nomatch hx), fun d hd => (nomatch hd), fun x hx => hx⟩
    split
    · obtain ⟨taken, drops, kept⟩ := ih (n + 1) (sum + time f)
      refine ⟨fun x hx => ?_, fun d hd => List.mem_cons_of_mem _ (drops d hd),
        fun x hx => List.mem_cons_of_mem _ (kept x hx)⟩
      rcases List.mem_cons.1 hx with rfl | hx
      · exact List.mem_cons_self
      · exact List.mem_cons_of_mem _ (taken x hx)
    · exact ⟨fun x hx => (nomatch hx), fun d hd => (nomatch hd), fun x hx => hx⟩

/-- The station of a new grant is put back GRANTED, and the grant stands last in its radio's table. -/
theorem Apart.lend {grant : Grant} (h : Apart i s) (free : Ungranted i s)
    (stations : ∀ j, j ≠ i → t.station j = s.station j) (rings : ∀ q k, (t.radio q).ring k = (s.radio q).ring k)
    (self : (t.radio r).grants = (s.radio r).grants ++ [grant])
    (others : ∀ q, q ≠ r → (t.radio q).grants = (s.radio q).grants)
    (released : ∀ n ∈ t.releaseList, NoticeSound n)
    (station : grant.station = i) (sound : GrantFits t r grant) (fits : StationFits i (t.station i))
    (fresh : grant.tag ∉ (s.radio r).grants.map (·.tag)) : StationsAgree t := by
  have old : ∀ q, ∀ g' ∈ (s.radio q).grants, g' ∈ (t.radio q).grants := fun q g' hg' => by
    by_cases hq : q = r
    · subst hq
      rw [self]
      exact List.mem_append_left _ hg'
    · rwa [others q hq]
  have new : grant ∈ (t.radio r).grants := by
    rw [self]
    exact List.mem_append_right _ (List.mem_singleton_self _)
  have which : ∀ q, ∀ g' ∈ (t.radio q).grants,
      g' ∈ (s.radio q).grants ∨ (q = r ∧ g' = grant) := fun q g' hg' => by
    by_cases hq : q = r
    · subst hq
      rw [self, List.mem_append, List.mem_singleton] at hg'
      exact hg'.imp_right fun e => ⟨rfl, e⟩
    · exact .inl (by rwa [others q hq] at hg')
  have granted := station ▸ sound.sound.granted
  exact {
    fits := fun j => by
      by_cases hj : j = i
      · subst hj; exact fits
      · rw [stations j hj]; exact h.fits j hj
    rings :=
      { member := fun q k j => by
          rw [rings, h.member]
          by_cases hj : j = i
          · subst hj
            simp [granted]
          · rw [stations j hj]
            simp [hj]
        once := fun q k => by rw [rings]; exact h.once q k }
    grants := fun q g' hg' => by
      rcases which q g' hg' with hold | ⟨rfl, rfl⟩
      · have hne := free q g' hold
        exact (h.grants q g' hold hne).congr (by rw [stations _ hne]) (by rw [stations _ hne])
          (by rw [stations _ hne]) (by rw [stations _ hne])
      · exact sound
    named := fun j hj => by
      by_cases hi : j = i
      · subst hi
        refine ⟨grant, ?_, station⟩
        rw [← station, sound.sound.owner]
        exact new
      · rw [stations j hi] at hj ⊢
        obtain ⟨g', hg', names⟩ := h.named j hi hj
        exact ⟨g', old _ g' hg', names⟩
    tags := fun q => by
      by_cases hq : q = r
      · subst hq
        rw [self, List.map_append, List.nodup_append]
        refine ⟨h.tags q, List.nodup_singleton _, ?_⟩
        rintro a ha b hb rfl
        have last : a = grant.tag := List.mem_singleton.1 hb
        exact fresh (last ▸ ha)
      · rw [others q hq]
        exact h.tags q
    released := released }

theorem ring_setRadio_same {v : RadioUnit} (rings : v.rings = (s.radio r).rings) (q : Radio) (k : GroupIndex) :
    ((s.setRadio r v).radio q).ring k = (s.radio q).ring k := by
  rw [State.radio_setRadio]
  split
  · next same =>
    subst same
    rw [RadioUnit.ring, rings, RadioUnit.ring]
  · rfl

theorem ring_chargeCounter (pass : PassKind) (n : Nat) (q : Radio) (k : GroupIndex) :
    ((s.chargeCounter r g pass n).radio q).ring k = (s.radio q).ring k := by
  cases pass with
  | cap =>
    rw [State.chargeCounter, State.raiseIf_radio]
    refine ring_setRadio_same ?_ q k
    rfl
  | borrow =>
    refine ring_setRadio_same ?_ q k
    rfl

theorem ring_formGrant {b : State} {pass : PassKind} {budget : Nat} {sel : Selection}
    (group : (b.station i).group = g) (q : Radio) (k : GroupIndex) :
    ((b.formGrant r i pass budget sel).1.radio q).ring k = ((b.leaveRing r g i).radio q).ring k := by
  subst group
  unfold State.formGrant State.recordGrant
  simp only
  rw [ring_setRadio_same, ring_chargeCounter, State.lendTo, State.setStation_radio]
  · exact ring_leaveRing_of_radio (State.dropFrames_radio b i _ _) q k
  · rfl

theorem rate_range {settings : RadioSettings} (range : RadioInRange settings) {rate : Nat}
    (held : rate = 0 ∨ (10 ≤ rate ∧ rate ≤ 24000)) :
    10 ≤ rateInUse settings rate ∧ rateInUse settings rate ≤ 24000 := by
  unfold rateInUse
  split
  · exact range.defaultRate
  · next present => exact held.resolve_left present

/-- A frame of 1 byte or more takes airtime at any rate (R4, R5). -/
theorem estimate_pos {settings : RadioSettings} {rate : Nat} (positive : 0 < rate) {frames : List Slot}
    (nonempty : 1 ≤ frames.length) (lengths : ∀ f ∈ frames, 1 ≤ f.length) :
    1 ≤ settings.ppduOverhead + divUp ((frames.map fun f => frameTime settings rate f.length).sum) 16 := by
  match frames with
  | [] => exact absurd nonempty (by decide)
  | f :: rest =>
    have length := lengths f List.mem_cons_self
    have first : 0 < frameTime settings rate f.length := divUp_pos (by omega) positive
    have total := divUp_pos (a := ((f :: rest).map fun f => frameTime settings rate f.length).sum) (b := 16)
      (by rw [List.map_cons, List.sum_cons]; omega) (by decide)
    omega

section
variable {b : State} {pass : PassKind} {budget : Nat} {f : Slot} {rest : List Slot} {airtime : BitVec 16}

/-- The slots that a selection takes, drops and keeps are slots of its station. -/
theorem selection_slots (queued : ∀ x ∈ f :: rest, SlotOf i x) :
    (∀ x ∈ (b.selection r i budget f rest).taken, SlotOf i x) ∧
      (∀ d ∈ (b.selection r i budget f rest).drops, SlotOf i d.slot) ∧
      ∀ x ∈ (b.selection r i budget f rest).kept, SlotOf i x := by
  obtain ⟨taken, drops, kept⟩ := selectFrames_mem (reason := b.dropReason r i) (time := b.slotTime r i)
    (fits := fun sum => estimate (b.radio r).settings sum ≤ budget) 1 (b.slotTime r i f) rest
  refine ⟨fun x hx => ?_, fun d hd => queued _ (List.mem_cons_of_mem _ (drops d hd)),
    fun x hx => queued _ (List.mem_cons_of_mem _ (kept x hx))⟩
  rcases List.mem_cons.1 hx with rfl | hx
  · exact queued _ List.mem_cons_self
  · exact queued _ (List.mem_cons_of_mem _ (taken x hx))

/-- A grant within the bounds of R96 to R99 is sound where its station is GRANTED under its tag. -/
theorem grantFits_of_bounded {grant : Grant} (bounded : State.GrantBounded r airtime grant s t)
    (settings : RadioInRange (s.radio r).settings)
    (rate : (s.station grant.station).rate = 0 ∨
      (10 ≤ (s.station grant.station).rate ∧ (s.station grant.station).rate ≤ 24000))
    (lent : ∀ x ∈ grant.frames, SlotOf grant.station x) (owner : (t.station grant.station).owner = r)
    (most : (t.station grant.station).deficit + grant.estimate ≤ 16383) : GrantFits t r grant := by
  have range : 10 ≤ grant.rate ∧ grant.rate ≤ 24000 := by
    rw [bounded.rate]
    exact rate_range settings rate
  obtain ⟨granted, tag, before⟩ := bounded.station
  exact {
    sound :=
      { granted := granted
        owner := owner
        tag := tag
        frames := bounded.frames
        budget := by
          refine ⟨?_, bounded.fits, bounded.budget.trans (clampOffer_le airtime)⟩
          rw [bounded.estimated]
          exact estimate_pos (Nat.lt_of_lt_of_le (by decide) range.1) bounded.frames.1
            fun x hx => (lent x hx).length.1
        rate := range
        before := ⟨before, most⟩ }
    lent := lent
    timer := by
      have timeout := settings.grantTimeout
      rw [bounded.timer]
      simp only [usToCycles, Config.cyclesPerUs]
      omega }

/-- The grant a visit forms takes its station to GRANTED, with everything else in agreement. -/
theorem HeadDropped.agree_granted (dropped : HeadDropped i s b) (h : StationsAgree s) (ranged : Ranged s)
    {ring : List StationIndex} (head : (s.radio r).ring g = i :: ring) (queue : (b.station i).queue = f :: rest)
    (deficit : 0 ≤ (b.station i).deficit)
    (bounded : State.GrantBounded r airtime (b.newGrant r i pass budget (b.selection r i budget f rest)) s
      (b.formGrant r i pass budget (b.selection r i budget f rest)).1) :
    StationsAgree (b.formGrant r i pass budget (b.selection r i budget f rest)).1 := by
  obtain ⟨ready, owner, group⟩ := h.head_ready head
  have resting := dropped.resting h ready
  have slots := selection_slots (b := b) (r := r) (budget := budget) (queue ▸ resting.queued)
  have formed := b.formGrant_formed r i pass budget (b.selection r i budget f rest)
  have stations := b.formGrant_station r i pass budget (b.selection r i budget f rest)
  have groupKept : (b.station i).group = g := by rw [dropped.record]; exact group
  have rings := ring_formGrant (b := b) (r := r) (pass := pass) (budget := budget)
    (sel := b.selection r i budget f rest) groupKept
  generalize b.selection r i budget f rest = sel at bounded slots formed stations rings ⊢
  obtain ⟨taken, drops, kept⟩ := slots
  generalize (b.formGrant r i pass budget sel).1 = t at bounded formed stations rings ⊢
  have record := stations i
  rw [if_pos rfl] at record
  have hold : (b.station i).hold = none := by
    rw [dropped.record]
    exact ((h.fits i).sound.shape_ready ready).2.2.1
  have grantsKept : ∀ q, ((b.leaveRing r g i).radio q).grants = (b.radio q).grants := fun q => by
    rw [(State.StationWork.leaveRing ..).radio q]
  have free : Ungranted i (b.leaveRing r g i) := (h.ungranted (i := i) (by simp [ready])).congr fun q => by
    rw [grantsKept, dropped.radio]
  refine (dropped.apart h head).lend (r := r) (grant := b.newGrant r i pass budget sel) free (fun j hj => ?_) rings ?_
    (fun q hq => ?_) (fun n hn => ?_) rfl ?_ ?_ ?_
  · rw [stations, if_neg (Ne.symm hj), State.leaveRing_station]
  · rw [formed.self, grantsKept]
  · rw [formed.other q hq, grantsKept]
  · rw [formed.released, List.mem_append] at hn
    exact hn.elim (dropped.released n) fun hn => (drops n hn).notice n.reason
  · refine grantFits_of_bounded bounded (ranged.settings.radios r) ?_ taken ?_ ?_
    · exact (h.fits i).sound.rate
    · show (t.station i).owner = r
      rw [record, dropped.record]
      exact owner
    · show (t.station i).deficit + _ ≤ _
      rw [record]
      have most := resting.deficit.2
      simp only
      omega
  · rw [record]
    have within := (bounded.fits.trans bounded.budget).trans (clampOffer_le airtime)
    have range := resting.deficit
    simp only [Config.offerMax] at within
    exact {
      sound :=
        { shape := ⟨hold, rfl⟩
          granted := fun _ => rfl
          exclusive := fun both => by simp [resting.mark] at both
          marked := fun mark => absurd mark (by simp [resting.mark])
          pending := fun pending => absurd pending (by simp [resting.pending])
          weight := resting.weight
          rate := resting.rate
          deficit := by
            show -16383 ≤ (b.station i).deficit - _ ∧ (b.station i).deficit - _ ≤ (16383 : Int)
            omega }
      queued := kept
      hold := fun n hn => by simp [hold] at hn
      settle := resting.settle }
  · rw [grantsKept, dropped.radio]
    exact bounded.tag

end

theorem StationsAgree.grantFormed {airtime : BitVec 16} {w v : Walk} (h : StationsAgree w.state)
    (ranged : Ranged w.state) (room : (w.state.radio r).grants.length < Config.grantWindow)
    (grants : Walk.Grants r (clampOffer airtime) w v) : StationsAgree v.state := by
  obtain ⟨grant, hgrant⟩ := Option.isSome_iff_exists.1 grants.grant_isSome
  have bounded := grants.bounded room (.refl r w.state) hgrant
  obtain @⟨pass, g, i, ring, f, rest, allowed, head, queue, deficit, fits, formed, rfl⟩ := grants
  obtain rfl := Option.some.inj hgrant
  exact (h.headDrops r i).agree_granted h ranged head queue deficit bounded

/-! ### OFFER -/

theorem StationsAgree.clearMarks (h : StationsAgree s) (r : Radio) : StationsAgree (s.clearMarks r) := by
  refine StationsAgree.setRadio h ?_ ?_ <;> rfl

theorem StationsAgree.answerPass (h : StationsAgree s) (r : Radio) (reason : PassReason) :
    StationsAgree (s.answerPass r reason) := by
  refine StationsAgree.answer ?_ (.radio r) _
  refine StationsAgree.setRadio h ?_ ?_ <;> rfl

theorem StationsAgree.offerTaken (h : StationsAgree s) (ranged : Ranged s) (r : Radio) (airtime : BitVec 16) :
    StationsAgree (Machine.offerTaken r airtime s) := by
  have offered := offerTaken_offered r airtime s
  generalize Machine.offerTaken r airtime s = t at offered
  have start : StationsAgree (s.offerStart r).state := h.clearMarks r
  have profile : ProfileInRange (s.offerStart r).state.profile := by
    cases r <;> exact ranged.settings.profile
  cases offered with
  | frozen | windowFull => exact h.answerPass ..
  | passed w walk hnone search =>
    exact ((start.search profile search).clearMarks r).answerPass ..
  | granted mid v g room search hnone grants hsome =>
    have searched := search.searched_start
    have agree := start.search profile search
    have formed := agree.grantFormed (ranged.searched searched) (by rw [searched.self]; exact room) grants
    exact (formed.clearMarks r).answer (.radio r) _

end Sys2Proof.Safety
end

section
/-! Every command and every cycle of the clock keep stations, rings and grants in agreement. -/

namespace Sys2Proof.Safety

open Machine

variable {i : StationIndex} {s t : State} {r : Radio}

/-! ### What the agreement does not read -/

theorem StationsAgree.of_eq (h : StationsAgree s) (stations : t.stations = s.stations)
    (radio : ∀ r, (t.radio r).rings = (s.radio r).rings ∧ (t.radio r).grants = (s.radio r).grants)
    (released : t.releaseList = s.releaseList) : StationsAgree t :=
  h.congr (fun j => by rw [State.station, stations, State.station])
    (fun r g => by rw [RadioUnit.ring, (radio r).1, RadioUnit.ring]) (fun r => (radio r).2)
    (released ▸ h.released)

theorem StationsAgree.pending (h : StationsAgree s) (cs : List Instr) : StationsAgree { s with pending := cs } :=
  h.of_eq rfl (fun r => by cases r <;> exact ⟨rfl, rfl⟩) rfl

theorem StationsAgree.setPort (h : StationsAgree s) (l : Link) (p : Port) : StationsAgree (s.setPort l p) := by
  cases l with
  | control => exact h.of_eq rfl (fun r => by cases r <;> exact ⟨rfl, rfl⟩) rfl
  | radio r => refine StationsAgree.setRadio h ?_ ?_ <;> rfl

theorem StationsAgree.emptyPort (h : StationsAgree s) (r : Radio) : StationsAgree (s.emptyPort r) :=
  StationsAgree.setPort (h.pending _) _ _

theorem StationsAgree.endEpoch (h : StationsAgree s) (r : Radio) : StationsAgree (s.endEpoch r) := by
  refine StationsAgree.setRadio (StationsAgree.setRadio h ?_ ?_) ?_ ?_ <;> rfl

theorem StationsAgree.discardRecord (h : StationsAgree s) (l : Link) : StationsAgree (s.discardRecord l) :=
  h.raiseIf _ _

theorem stationsAgree_of_reset (stations : t.stations = State.reset.stations)
    (radio : ∀ r, t.radio r = RadioUnit.reset) (released : t.releaseList = []) : StationsAgree t := by
  have vacant : ∀ j, t.station j = Station.vacant := fun j => by
    rw [State.station, stations]
    exact State.reset_station j
  have ring : ∀ r g, (t.radio r).ring g = [] := fun r g => by
    rw [radio]
    fin_cases g <;> rfl
  have grants : ∀ r, (t.radio r).grants = [] := fun r => by rw [radio]; rfl
  exact {
    fits := fun j => by rw [vacant]; exact fits_vacated j Station.vacant
    rings :=
      { member := fun r g j => by
          rw [ring, vacant]
          exact iff_of_false (fun h => nomatch h) fun h => nomatch h.1
        once := fun r g => by rw [ring]; exact List.nodup_nil }
    grants := fun r g hg => by
      rw [grants] at hg
      exact nomatch hg
    named := fun j hj => by
      rw [vacant] at hj
      exact nomatch hj
    tags := fun r => by rw [grants]; exact List.nodup_nil
    released := fun n hn => by
      rw [released] at hn
      exact nomatch hn }

/-! ### The clock (R177) -/

theorem remains_countDown {most n : Nat} (h : Remains most n) : Remains most (countDown n) :=
  ⟨one_le_countDown h.1, (countDown_le n).trans h.2⟩

theorem StationFits.tick {st : Station} (h : StationFits i st) : StationFits i st.tick := by
  have unheld : st.state ≠ .holding → st.tick.hold = st.hold := fun state => by
    rw [Station.tick, h.sound.unheld state]
    rfl
  have shape : ShapeOfState st.tick := by
    by_cases free : st.state = .free
    · have vacant := h.sound.shape_free free
      have same : st.tick = st := by
        rw [vacant]
        rfl
      rw [same]
      exact h.sound.shape
    by_cases holding : st.state = .holding
    · obtain ⟨queue, power, hold, tag⟩ := h.sound.shape_holding holding
      have state : st.tick.state = .holding := holding
      rw [ShapeOfState, state]
      exact ⟨queue, power, by rw [Station.tick, Option.isSome_map]; exact hold, tag⟩
    · exact shape_of_same h.sound.shape free rfl rfl rfl (unheld holding) rfl
  exact {
    sound := { h.sound with
      shape := shape
      pending := fun pending => by
        obtain ⟨other, pinned, settle⟩ := h.sound.pending pending
        exact ⟨other, pinned, by rw [Station.tick, settle]; rfl⟩ }
    queued := h.queued
    hold := fun n hn => by
      obtain ⟨m, hm, rfl⟩ := Option.map_eq_some_iff.1 hn
      exact remains_countDown (h.hold m hm)
    settle := fun n hn => by
      obtain ⟨m, hm, rfl⟩ := Option.map_eq_some_iff.1 hn
      exact remains_countDown (h.settle m hm) }

theorem StationsAgree.tickTimers (h : StationsAgree s) : StationsAgree s.tickTimers where
  fits j := by rw [State.tickTimers_station]; exact (h.fits j).tick
  rings :=
    { member := fun r g j => by
        rw [State.tickTimers_radio, State.tickTimers_station]
        exact h.rings.member r g j
      once := fun r g => by rw [State.tickTimers_radio]; exact h.rings.once r g }
  grants r g hg := by
    rw [State.tickTimers_radio] at hg
    obtain ⟨old, hold, rfl⟩ := List.mem_map.1 hg
    have fits := h.grants r old hold
    exact {
      sound := { fits.sound with
        granted := by rw [State.tickTimers_station]; exact fits.sound.granted
        owner := by rw [State.tickTimers_station]; exact fits.sound.owner
        tag := by rw [State.tickTimers_station]; exact fits.sound.tag
        before := by rw [State.tickTimers_station]; exact fits.sound.before }
      lent := fits.lent
      timer := remains_countDown fits.timer }
  named j hj := by
    rw [State.tickTimers_station] at hj ⊢
    obtain ⟨g, hg, names⟩ := h.named j hj
    exact ⟨{ g with timer := countDown g.timer }, by
      rw [State.tickTimers_radio]
      exact List.mem_map_of_mem hg, names⟩
  tags r := by
    rw [State.tickTimers_radio]
    have tags := h.tags r
    simpa [RadioUnit.tick, Function.comp_def] using tags
  released n hn := h.released n hn

theorem StationsAgree.counted (h : StationsAgree s) (n : Nat) : StationsAgree { s.counted with choices := n } := by
  have watched : ∀ u : State, StationsAgree u → StationsAgree u.tickWatches := fun u hu =>
    hu.of_eq rfl (fun r => by cases r <;> exact ⟨rfl, rfl⟩) rfl
  have same : ∀ u : State, StationsAgree u → StationsAgree { u with choices := n } := fun u hu =>
    hu.of_eq rfl (fun r => by cases r <;> exact ⟨rfl, rfl⟩) rfl
  refine same _ ?_
  obtain ⟨-, e⟩ | ⟨-, -, e⟩ | ⟨-, -, e⟩ := s.counted_cases <;> rw [e]
  · exact h
  · exact watched s h
  · exact watched _ h.tickTimers

/-! ### Every command -/

theorem StationsAgree.controlWrite (h : StationsAgree s) (write : s.ControlWrite t) : StationsAgree t := by
  cases write with
  | nothing => exact h
  | scanCursor | group | saved | restored | device | forced | masked =>
    exact h.of_eq rfl (fun r => by cases r <;> exact ⟨rfl, rfl⟩) rfl
  | collected n =>
    exact h.congr (fun _ => rfl) (fun r g => by cases r <;> exact .refl _) (fun r => by cases r <;> rfl)
      fun m hm => h.released m (List.mem_of_mem_drop hm)
  | radio r b => refine StationsAgree.setRadio h ?_ ?_ <;> rfl

theorem StationsAgree.writes (h : StationsAgree s) (writes : s.WritesAndAnswers t) : StationsAgree t := by
  obtain ⟨u, a, write, rfl⟩ := writes
  exact (h.controlWrite write).answer .control a

theorem StationsAgree.malformedTaken (h : StationsAgree s) (l : Link) (kind : Byte) :
    StationsAgree (Machine.malformedTaken l kind s) := by
  unfold Machine.malformedTaken
  split
  · exact h.refuseMalformed ..
  · split
    · exact h.refuseRadio ..
    · exact h.refuseMalformed ..

/-- A Control Link request but DEVICE RESET, as it is taken. -/
theorem StationsAgree.controlTaken {c : Instr} (h : StationsAgree s) (ranged : Ranged s)
    (link : requestLink c = some .control) (hreset : c ≠ .deviceReset) (e : exec c s = .next t) :
    StationsAgree t := by
  have device := ranged.settings.device
  cases c with
  | admitStation => exact State.onControl_keeps e h fun _ => h.admitTaken ..
  | dismiss => exact State.onControl_keeps e h fun _ => h.dismissTaken _
  | tune => exact State.onControl_keeps e h fun _ => h.tuneTaken ..
  | rematch => exact State.onControl_keeps e h fun _ => h.rematchTaken _
  | pin => exact State.onControl_keeps e h fun _ => h.pinTaken _
  | unpin => exact State.onControl_keeps e h fun _ => h.unpinTaken _
  | purge => exact State.onControl_keeps e h fun _ => h.purgeTaken _
  | queue => exact State.onControl_keeps e h fun _ => h.queueTaken ranged.settings.profile ..
  | steer => exact State.onControl_keeps e h fun _ => h.steerTaken device ..
  | stationRead index =>
    refine State.onControl_keeps e h fun _ => ?_
    unfold stationReadTaken
    split <;> exact h.reply ..
  | groupRead group =>
    refine State.onControl_keeps e h fun _ => ?_
    unfold groupReadTaken
    split <;> exact h.reply ..
  | radioRead radio =>
    refine State.onControl_keeps e h fun _ => ?_
    unfold radioReadTaken
    split <;> exact h.reply ..
  | deviceRead | eventRead => exact State.onControl_keeps e h fun _ => h.reply ..
  | stationScan => exact State.onControl_keeps e h fun _ => h.writes (stationScanTaken_writes ..)
  | collect => exact State.onControl_keeps e h fun _ => h.writes (collectTaken_writes ..)
  | groupSet => exact State.onControl_keeps e h fun _ => h.writes (groupSetTaken_writes ..)
  | profileSave => exact State.onControl_keeps e h fun _ => h.writes (profileSaveTaken_writes _)
  | profileRestore => exact State.onControl_keeps e h fun _ => h.writes (profileRestoreTaken_writes _)
  | radioSet => exact State.onControl_keeps e h fun _ => h.writes (radioSetTaken_writes ..)
  | deviceSet => exact State.onControl_keeps e h fun _ => h.writes (deviceSetTaken_writes ..)
  | eventClear kinds =>
    refine State.onControl_keeps e h fun _ => StationsAgree.reply ?_ _ _ _
    exact h.of_eq rfl (fun r => by cases r <;> exact ⟨rfl, rfl⟩) rfl
  | eventForce kinds => exact State.onControl_keeps e h fun _ => h.writes ⟨_, _, .forced kinds, rfl⟩
  | eventMask kinds => exact State.onControl_keeps e h fun _ => h.writes ⟨_, _, .masked kinds, rfl⟩
  | deviceReset => exact absurd rfl hreset
  | _ => exact nomatch link

theorem exec_keeps_stationsAgree (c : Instr) (s t : State) (h : StationsAgree s) (ranged : Ranged s)
    (e : exec c s = .next t) : StationsAgree t := by
  have device := ranged.settings.device
  by_cases request : requestLink c = some .control ∧ c ≠ .deviceReset
  · exact h.controlTaken ranged request.1 request.2 e
  cases c with
  | deviceReset =>
    refine State.onControl_keeps e h fun _ => stationsAgree_of_reset rfl (fun r => by cases r <;> rfl) rfl
  | linkStart r => exact ignored_keeps e h fun _ => h.linkStartTaken device r
  | offer r airtime =>
    exact State.onRadio_keeps e h (fun _ => h.refuseRadio ..) fun _ _ => h.offerTaken ranged r airtime
  | report r tag airtime rate fields =>
    exact State.onRadio_keeps e h (fun _ => h.refuseRadio ..)
      fun _ _ => h.reportTaken device ranged.settings.profile ..
  | withdraw r tag =>
    exact State.onRadio_keeps e h (fun _ => h.refuseRadio ..) fun _ _ => h.withdrawTaken device r tag
  | note r index power rate =>
    exact State.onRadio_keeps e h (fun _ => h.refuseRadio ..) fun _ _ => h.noteTaken ..
  | malformedRecord l kind => exact ignored_keeps e h fun _ => h.malformedTaken l kind
  | recordWithoutHeader l | recordWhileNotReady l =>
    cases e
    exact h.discardRecord l
  | answerSent l =>
    change execAnswerSent l s = .next t at e
    unfold execAnswerSent at e
    split at e
    · cases e
      exact h
    · next rest _ =>
      cases e
      have sent := h.setPort l ⟨(s.port l).claimed - 1, rest⟩
      split
      · exact sent.of_eq rfl (fun r => by cases r <;> exact ⟨rfl, rfl⟩) rfl
      · exact sent
  | holdTimerExpiry i =>
    refine State.onExpiry_keeps e h fun _ => ?_
    split
    · next due => exact h.holdExpiry due
    · exact h
  | settleTimerExpiry i =>
    refine State.onExpiry_keeps e h fun _ => ?_
    split
    · next due => exact h.settleExpiry due
    · exact h
  | grantTimeout r tag =>
    refine State.onExpiry_keeps e h fun _ => ?_
    split
    · exact h
    · next g found =>
      split
      · exact h.endTimedOut device (mem_of_findGrant found)
      · exact h
  | epochTimerExpiry r =>
    refine State.onExpiry_keeps e h fun _ => ?_
    split
    · exact h.endEpoch r
    · exact h
  | millisecondClockAdvance =>
    refine State.onExpiry_keeps e h fun _ => ?_
    split
    · exact h.of_eq rfl (fun r => by cases r <;> exact ⟨rfl, rfl⟩) rfl
    · exact h
  | linkClockAbsent r =>
    cases e
    split
    · exact (h.emptyPort r).radioLinkReset (ranged.emptyPort r).settings.device r
    · exact h
  | resetInputLow =>
    cases e
    exact stationsAgree_of_reset rfl (fun r => by cases r <;> rfl) rfl
  | resetInputHigh | freezeInputAsserted | freezeInputReleased =>
    cases e
    exact h.of_eq rfl (fun r => by cases r <;> exact ⟨rfl, rfl⟩) rfl
  | requestRecordBegins l =>
    cases e
    split
    · exact h.pending _
    · split
      · exact h.setPort ..
      · exact (h.pending _).discardRecord l
  | requestClockEdge r =>
    cases e
    split
    · refine StationsAgree.setRadio h ?_ ?_ <;> rfl
    · exact h
  | _ => exact absurd ⟨rfl, by simp⟩ request

end Sys2Proof.Safety
end

section
/-! The epoch timers, the watches, the running millisecond and the device reset: every command and every cycle of
the clock keep them. While the reset input is low nothing moves but the inputs and the queue. -/

namespace Sys2Proof.Safety

open Machine

variable {s t : State} {r : Radio}

/-! ### The clocks outside device reset -/

/-- A radio's epoch timer and watch are in range. -/
structure ClocksInRange (u : RadioUnit) : Prop where
  epoch : EpochSound u.epoch
  watch : ∀ n, u.watch = some n → n < usToCycles Config.watchLimitUs

/-- The part is out of the reset input's hold, its clocks are in range and DONE is alone while it is due. -/
structure Paced (s : State) : Prop where
  radios : ∀ r, ClocksInRange (s.radio r)
  millisecond : s.msPhase < Config.cyclesPerMs
  input : s.resetInput = true
  doneDue : DoneDue s

theorem ClocksInRange.of_eq {u v : RadioUnit} (h : ClocksInRange u) (epoch : v.epoch = u.epoch)
    (watch : v.watch = u.watch) : ClocksInRange v :=
  ⟨epoch ▸ h.epoch, watch ▸ h.watch⟩

theorem usToCycles_pos {n : Nat} (h : 1 ≤ n) : 1 ≤ usToCycles n := by
  unfold usToCycles
  simp only [Config.cyclesPerUs]
  omega

/-- The epoch timer as an epoch begins (R72). -/
theorem epochSound_start {settings : RadioSettings} (h : RadioInRange settings) :
    EpochSound ⟨true, usToCycles settings.epochLength, some settings.epochLength⟩ where
  started _ := ⟨rfl, usToCycles_pos (le_trans (by decide) h.epochLength.1)⟩
  inForce n hn := by
    cases hn
    exact ⟨h.epochLength.1, h.epochLength.2, le_rfl⟩
  fresh none := nomatch none

/-- A radio after a device reset. -/
theorem clocksInRange_reset : ClocksInRange RadioUnit.reset where
  epoch :=
    { started := fun running => nomatch running
      inForce := fun _ hn => nomatch hn
      fresh := fun _ => rfl }
  watch _ hn := nomatch hn

namespace Paced

/-- What keeps the epoch timers, the watches and the rest of the part keeps them in range. -/
theorem of_rest (h : Paced s) (rest : s.RestKept t)
    (radio : ∀ r, (t.radio r).epoch = (s.radio r).epoch ∧ (t.radio r).watch = (s.radio r).watch) :
    Paced t where
  radios r := (h.radios r).of_eq (radio r).1 (radio r).2
  millisecond := rest.msPhase ▸ h.millisecond
  input := rest.resetInput ▸ h.input
  doneDue due := by rw [rest.control]; exact h.doneDue (rest.resetAnswerDue ▸ due)

theorem stationWork (h : Paced s) (work : s.StationWork t) : Paced t :=
  h.of_rest work.toRestKept fun r => by rw [work.radio r]; exact ⟨rfl, rfl⟩

theorem endWork (h : Paced s) (work : s.EndWork r t) : Paced t :=
  h.of_rest work.toRestKept fun q => by
    by_cases hq : q = r
    · subst hq; rw [work.self]; exact ⟨rfl, rfl⟩
    · rw [work.other q hq]; exact ⟨rfl, rfl⟩

theorem searched (h : Paced s) (search : s.Searched r t) : Paced t :=
  h.of_rest search.toRestKept fun q => by
    by_cases hq : q = r
    · subst hq; rw [search.self]; exact ⟨rfl, rfl⟩
    · rw [search.other q hq]; exact ⟨rfl, rfl⟩

theorem formed {g : Grant} {drops : List Notice} (h : Paced s) (formed : State.Formed r g drops s t) : Paced t :=
  h.of_rest formed.toRestKept fun q => by
    by_cases hq : q = r
    · subst hq; rw [formed.self]; exact ⟨rfl, rfl⟩
    · rw [formed.other q hq]; exact ⟨rfl, rfl⟩

/-- Writing a radio's record with clocks in range. -/
theorem setRadio {u : RadioUnit} (h : Paced s) (clocks : ClocksInRange u) : Paced (s.setRadio r u) where
  radios q := by
    rw [State.radio_setRadio]
    split
    · exact clocks
    · exact h.radios q
  millisecond := by rw [State.setRadio_msPhase]; exact h.millisecond
  input := by rw [State.setRadio_resetInput]; exact h.input
  doneDue due := by
    rw [State.setRadio_control]
    exact h.doneDue (by rwa [State.setRadio_resetAnswerDue] at due)

/-- Writing a radio's record, its epoch timer and watch apart. -/
theorem setRadio_same {u : RadioUnit} (h : Paced s) (epoch : u.epoch = (s.radio r).epoch)
    (watch : u.watch = (s.radio r).watch) : Paced (s.setRadio r u) :=
  h.setRadio ((h.radios r).of_eq epoch watch)

theorem pending (h : Paced s) (cs : List Instr) : Paced { s with pending := cs } :=
  ⟨fun r => by cases r; exacts [h.radios .a, h.radios .b], h.millisecond, h.input, h.doneDue⟩

/-! ### Answers and writes -/

/-- No answer to DEVICE RESET is due while the Control Link takes records (R169). -/
theorem due_of_open (taken : s.ignores .control = false) : s.resetAnswerDue = false := by
  simp only [State.ignores, Bool.or_eq_false_iff] at taken
  exact taken.2

theorem answerControl (h : Paced s) (due : s.resetAnswerDue = false) (a : Answer) :
    Paced (s.answer .control a) :=
  ⟨fun r => by cases r; exacts [h.radios .a, h.radios .b], h.millisecond, h.input,
    fun due' => absurd (due.symm.trans due') Bool.false_ne_true⟩

theorem answerRadio (h : Paced s) (r : Radio) (a : Answer) : Paced (s.answer (.radio r) a) :=
  h.setRadio_same rfl rfl

theorem answersOn {l : Link} (h : Paced s) (taken : s.ignores l = false) (answers : s.AnswersOn l t) :
    Paced t := by
  obtain ⟨u, a, work, rfl⟩ := answers
  have worked := h.stationWork work
  cases l with
  | control => exact worked.answerControl (work.resetAnswerDue.trans (due_of_open taken)) a
  | radio r => exact worked.answerRadio r a

theorem controlWrite (h : Paced s) (write : s.ControlWrite t) :
    Paced t ∧ t.resetAnswerDue = s.resetAnswerDue := by
  cases write with
  | nothing => exact ⟨h, rfl⟩
  | radio r b => exact ⟨h.setRadio_same rfl rfl, State.setRadio_resetAnswerDue ..⟩
  | scanCursor | collected | group | saved | restored | device | forced | masked =>
    exact ⟨⟨fun r => by cases r; exacts [h.radios .a, h.radios .b], h.millisecond, h.input, h.doneDue⟩, rfl⟩

theorem requestTaken {c : Instr} (h : Paced s) (taken : s.ignores .control = false)
    (request : s.RequestTaken c t) : Paced t := by
  have due := due_of_open taken
  cases request with
  | answers answers => exact h.answersOn taken answers
  | writes writes =>
    obtain ⟨u, a, write, rfl⟩ := writes
    obtain ⟨paced, same⟩ := h.controlWrite write
    exact paced.answerControl (same.trans due) a
  | cleared kinds a =>
    have cleared : Paced { s with raw := s.raw &&& ~~~kinds } :=
      ⟨fun r => by cases r; exacts [h.radios .a, h.radios .b], h.millisecond, h.input, h.doneDue⟩
    exact cleared.answerControl due a

/-! ### Grants and links -/

theorem dropGrant (h : Paced s) (r : Radio) (tag : Byte) : Paced (s.dropGrant r tag) :=
  h.setRadio_same rfl rfl

theorem endWithdrawn (h : Paced s) (r : Radio) (g : Grant) : Paced (s.endWithdrawn r g) := by
  obtain ⟨u, work, eq⟩ := s.endWithdrawn_eq r g
  rw [eq]
  exact (h.endWork work).dropGrant ..

theorem endReported (h : Paced s) (r : Radio) (g : Grant) (actual : Nat) (rate : BitVec 16)
    (outcomes : List FrameOutcome) : Paced (s.endReported r g actual rate outcomes) := by
  obtain ⟨u, work, eq⟩ := s.endReported_eq r g actual rate outcomes
  rw [eq]
  exact (h.endWork work).dropGrant ..

theorem endTimedOut (h : Paced s) (r : Radio) (g : Grant) : Paced (s.endTimedOut r g) := by
  obtain ⟨u, work, -, eq⟩ := s.endTimedOut_eq r g
  rw [eq]
  refine Paced.stationWork ?_ (.raise ..)
  exact ((h.endWork work).dropGrant r g.tag).setRadio_same rfl rfl

theorem takeDown (h : Paced s) (r : Radio) : Paced (s.takeDown r) := by
  obtain ⟨epoch, -⟩ := h.radios r
  exact h.setRadio
    { epoch :=
        { started := fun running => nomatch running
          inForce := epoch.inForce
          fresh := epoch.fresh }
      watch := fun _ hn => nomatch hn }

theorem radioLinkReset (h : Paced s) (r : Radio) : Paced (s.radioLinkReset r) := by
  have ended := (State.endGrants_keeps (r := r) (fun u g _ _ hu => hu.endWithdrawn r g) h).1
  exact (ended.takeDown r).stationWork (.raise ..)

theorem linkStartTaken (h : Paced s) (ranged : Ranged s) (r : Radio) :
    Paced (Machine.linkStartTaken r s) := by
  have brought : ∀ u, Paced u → Ranged u → Paced (u.bringUp r) := fun u hu range =>
    hu.setRadio ⟨epochSound_start (range.settings.radios r), fun _ hn => by cases hn; decide⟩
  unfold Machine.linkStartTaken
  refine Paced.answerRadio ?_ ..
  split
  · exact brought _ (h.radioLinkReset r) (ranged.radioLinkReset r)
  · exact brought _ h ranged

theorem endEpoch (h : Paced s) (ranged : Ranged s) (r : Radio) : Paced (s.endEpoch r) := by
  have rolled : Paced (s.rollover r) := h.setRadio_same rfl rfl
  have settings : ((s.rollover r).radio r).settings = (s.radio r).settings := by
    rw [State.rollover, State.radio_setRadio_self]
  refine rolled.setRadio ⟨epochSound_start ?_, (rolled.radios r).watch⟩
  rw [settings]
  exact ranged.settings.radios r

theorem emptyPort (h : Paced s) (r : Radio) : Paced (s.emptyPort r) :=
  (h.pending _).setRadio_same rfl rfl

theorem answerPass (h : Paced s) (r : Radio) (reason : PassReason) : Paced (s.answerPass r reason) := by
  refine Paced.answerRadio ?_ ..
  exact h.setRadio_same rfl rfl

theorem clearMarks (h : Paced s) (r : Radio) : Paced (s.clearMarks r) := h.setRadio_same rfl rfl

theorem offerTaken (h : Paced s) (r : Radio) (airtime : BitVec 16) :
    Paced (Machine.offerTaken r airtime s) := by
  have offered := offerTaken_offered r airtime s
  generalize Machine.offerTaken r airtime s = t at offered
  cases offered with
  | frozen | windowFull => exact h.answerPass ..
  | passed w walk hnone search =>
    exact ((h.searched search.searched_start).clearMarks r).answerPass ..
  | granted mid v g room search hnone grants hsome =>
    obtain ⟨base, g', drops, searched, formed, -⟩ := grants.formed
    exact ((((h.searched search.searched_start).searched searched).formed formed).clearMarks r).answerRadio ..

/-! ### Buffers -/

theorem setPort {l : Link} (h : Paced s) (due : l = .control → s.resetAnswerDue = false) (p : Port) :
    Paced (s.setPort l p) := by
  cases l with
  | control =>
    exact ⟨fun r => by cases r; exacts [h.radios .a, h.radios .b], h.millisecond, h.input,
      fun due' => absurd ((due rfl).symm.trans due') Bool.false_ne_true⟩
  | radio r => exact h.setRadio_same rfl rfl

theorem answerSent {l : Link} (h : Paced s) (e : execAnswerSent l s = .next t) : Paced t := by
  unfold execAnswerSent at e
  split at e
  · cases e
    exact h
  · cases e
    cases l with
    | control =>
      exact ⟨fun r => by cases r; exacts [h.radios .a, h.radios .b], h.millisecond, h.input,
        fun due => nomatch due⟩
    | radio r => exact h.setRadio_same rfl rfl

theorem requestRecordBegins {l : Link} (h : Paced s) (e : execRequestRecordBegins l s = .next t) : Paced t := by
  cases e
  split
  · exact h.pending _
  · next taken =>
    split
    · refine h.setPort (fun control => ?_) _
      rw [control, Bool.not_eq_true] at taken
      exact due_of_open taken
    · exact (h.pending _).stationWork (.raiseIf ..)

/-! ### The clock (R177) -/

theorem tickTimers (h : Paced s) : Paced s.tickTimers where
  radios r := by
    rw [State.tickTimers_radio]
    obtain ⟨epoch, watch⟩ := h.radios r
    have le : (s.radio r).tick.epoch.remaining ≤ (s.radio r).epoch.remaining := by
      simp only [RadioUnit.tick]
      split
      · exact countDown_le _
      · exact le_rfl
    exact {
      epoch :=
        { started := fun running => by
            obtain ⟨started, remaining⟩ := epoch.started running
            refine ⟨started, ?_⟩
            have running : (s.radio r).epoch.running = true := running
            simp only [RadioUnit.tick, running, if_true]
            exact one_le_countDown remaining
          inForce := fun n hn => by
            obtain ⟨low, high, remaining⟩ := epoch.inForce n hn
            exact ⟨low, high, le.trans remaining⟩
          fresh := fun none => Nat.le_zero.1 (epoch.fresh none ▸ le) }
      watch := watch }
  millisecond := countUp_lt h.millisecond
  input := h.input
  doneDue := h.doneDue

theorem tickWatches (h : Paced s) : Paced s.tickWatches where
  radios r := by
    rw [State.tickWatches_radio]
    refine ⟨(h.radios r).epoch, fun n hn => ?_⟩
    obtain ⟨m, hm, rfl⟩ := Option.map_eq_some_iff.1 hn
    exact countUp_lt ((h.radios r).watch m hm)
  millisecond := h.millisecond
  input := h.input
  doneDue := h.doneDue

theorem counted (h : Paced s) (n : Nat) : Paced { s.counted with choices := n } := by
  have same : ∀ u : State, Paced u → Paced { u with choices := n } := fun u hu =>
    ⟨fun r => by cases r; exacts [hu.radios .a, hu.radios .b], hu.millisecond, hu.input, hu.doneDue⟩
  refine same _ ?_
  obtain ⟨low, -⟩ | ⟨-, -, e⟩ | ⟨-, -, e⟩ := s.counted_cases
  · exact nomatch h.input.symm.trans low
  · rw [e]
    exact h.tickWatches
  · rw [e]
    exact h.tickTimers.tickWatches

end Paced

/-! ### Every command outside device reset -/

theorem exec_keeps_paced (c : Instr) (s t : State) (h : Paced s) (ranged : Ranged s) (input : c ≠ .resetInputLow)
    (e : exec c s = .next t) : Paced t := by
  by_cases request : requestLink c = some .control ∧ c ≠ .deviceReset
  · obtain ⟨link, hreset⟩ := request
    exact exec_control_keeps link hreset e h fun taken u hu => h.requestTaken taken hu
  cases c with
  | deviceReset =>
    refine State.onControl_keeps e h fun _ => ?_
    exact {
      radios := fun r => by cases r <;> exact clocksInRange_reset
      millisecond := (by decide : 0 < Config.cyclesPerMs)
      input := h.input
      doneDue := fun _ => rfl }
  | linkStart r => exact ignored_keeps e h fun _ => h.linkStartTaken ranged r
  | offer r airtime =>
    exact State.onRadio_keeps e h (fun _ => h.answerRadio ..) fun _ _ => h.offerTaken ..
  | report r tag airtime rate fields =>
    refine State.onRadio_keeps e h (fun _ => h.answerRadio ..) fun taken _ => ?_
    unfold reportTaken
    split
    · exact h.answerRadio ..
    · split
      · exact h.answerRadio ..
      · split
        · exact h.answersOn taken (State.answersOn_refuseMalformed ..)
        · exact (h.endReported ..).answerRadio ..
  | withdraw r tag =>
    refine State.onRadio_keeps e h (fun _ => h.answerRadio ..) fun _ _ => ?_
    unfold withdrawTaken
    split
    · exact h.answerRadio ..
    · exact (h.endWithdrawn ..).answerRadio ..
  | note r index power rate =>
    exact State.onRadio_keeps e h (fun _ => h.answerRadio ..)
      fun taken _ => h.answersOn taken (noteTaken_answers ..)
  | malformedRecord l kind =>
    exact ignored_keeps e h fun taken => h.answersOn taken (malformedTaken_answers ..)
  | recordWithoutHeader | recordWhileNotReady => cases e; exact h.stationWork (.raiseIf ..)
  | answerSent l => exact h.answerSent e
  | holdTimerExpiry i =>
    refine State.onExpiry_keeps e h fun _ => ?_
    split
    · exact h.stationWork (.enterReady ..)
    · exact h
  | settleTimerExpiry i =>
    refine State.onExpiry_keeps e h fun _ => ?_
    split
    · exact h.stationWork (.setStation ..)
    · exact h
  | grantTimeout r tag =>
    refine State.onExpiry_keeps e h fun _ => ?_
    split
    · exact h
    · split
      · exact h.endTimedOut ..
      · exact h
  | epochTimerExpiry r =>
    refine State.onExpiry_keeps e h fun _ => ?_
    split
    · exact h.endEpoch ranged r
    · exact h
  | millisecondClockAdvance =>
    refine State.onExpiry_keeps e h fun _ => ?_
    split
    · exact ⟨fun r => by cases r; exacts [h.radios .a, h.radios .b],
        (by decide : 0 < Config.cyclesPerMs), h.input, h.doneDue⟩
    · exact h
  | linkClockAbsent r =>
    cases e
    split
    · exact (h.emptyPort r).radioLinkReset r
    · exact h
  | resetInputLow => exact absurd rfl input
  | resetInputHigh =>
    cases e
    exact ⟨fun r => by cases r; exacts [h.radios .a, h.radios .b], h.millisecond, rfl, h.doneDue⟩
  | freezeInputAsserted | freezeInputReleased =>
    cases e
    exact ⟨fun r => by cases r; exacts [h.radios .a, h.radios .b], h.millisecond, h.input, h.doneDue⟩
  | requestRecordBegins l => exact h.requestRecordBegins e
  | requestClockEdge r =>
    cases e
    split
    · exact h.setRadio ⟨(h.radios r).epoch, fun _ hn => by cases hn; decide⟩
    · exact h
  | _ => exact absurd ⟨rfl, by simp⟩ request

/-! ### The part held in device reset (R168) -/

/-- Every block holds its reset values; the inputs' pins, the choices and the queue are free. -/
def AtReset (s : State) : Prop :=
  ∃ (input pin : Bool) (choices : Nat) (pending : List Instr),
    s = { State.reset with
      resetInput := input, freezeInput := pin, choices := choices, pending := pending }

theorem AtReset.reset : AtReset State.reset := ⟨_, _, _, _, rfl⟩

theorem HeldInReset.atReset (h : HeldInReset s) (low : s.resetInput = false) : AtReset s :=
  ⟨_, _, _, _, h low⟩

theorem AtReset.held (h : AtReset s) : HeldInReset s := by
  obtain ⟨input, pin, choices, pending, rfl⟩ := h
  rintro rfl
  rfl

/-- While the reset input is low every command but the inputs' leaves the part as it is, up to the queue. -/
theorem exec_keeps_atReset {c : Instr} (low : s.resetInput = false) (h : AtReset s) (e : exec c s = .next t) :
    AtReset t := by
  have same : exec c s = .next s → AtReset t := fun eq => by
    cases eq.symm.trans e
    exact h
  have ignored : ∀ l, requestLink c = some l ∨ (∃ kind, c = .malformedRecord l kind) ∨
      c = .recordWithoutHeader l ∨ c = .recordWhileNotReady l → AtReset t := fun l hc =>
    same ((requestsIgnoredInReset c l s (.inl low)).1 hc)
  have stopped : Spec.stoppable c = true → AtReset t := fun hc =>
    same (timersHeldInFreezeAndReset.2.2 c s hc fun run => nomatch low.symm.trans run.1)
  obtain ⟨input, pin, choices, pending, rfl⟩ := h
  cases c with
  | holdTimerExpiry | settleTimerExpiry | grantTimeout | epochTimerExpiry | millisecondClockAdvance =>
    exact stopped rfl
  | malformedRecord l kind => exact ignored l (.inr (.inl ⟨kind, rfl⟩))
  | recordWithoutHeader l => exact ignored l (.inr (.inr (.inl rfl)))
  | recordWhileNotReady l => exact ignored l (.inr (.inr (.inr rfl)))
  | answerSent l =>
    refine same ?_
    cases l with
    | control => rfl
    | radio r => cases r <;> rfl
  | linkClockAbsent r | requestClockEdge r => exact same (by cases r <;> rfl)
  | resetInputLow | resetInputHigh | freezeInputAsserted | freezeInputReleased =>
    cases e
    exact ⟨_, _, _, _, rfl⟩
  | requestRecordBegins l =>
    have e := (requestsIgnoredInReset (.requestRecordBegins l) l _ (.inl low)).2.symm.trans e
    cases e
    exact ⟨_, _, _, _, rfl⟩
  | _ => exact ignored _ (.inl rfl)

end Sys2Proof.Safety
end

section
/-! `Safety.Coherent` as a whole: what it says is what the settings, the links, the pool, the stations and the clocks
say, each of which every command keeps. -/

namespace Sys2Proof.Safety

open Machine

variable {s t : State}

/-! ### The parts of the invariant -/

theorem Coherent.ranged (h : Coherent s) : Ranged s := ⟨h.settings, h.counters⟩

theorem Coherent.agree (h : Coherent s) : StationsAgree s where
  fits i := ⟨h.stations i, h.slots.queued i, h.timers.hold i, h.timers.settle i⟩
  rings := h.rings
  grants r g hg := ⟨h.grants.sound r g hg, h.slots.lent r g hg, h.timers.grant r g hg⟩
  named := h.grants.named
  tags r := (h.links.radios r).tags
  released := h.slots.released

theorem Coherent.paced (h : Coherent s) (input : s.resetInput = true) : Paced s :=
  ⟨fun r => ⟨h.timers.epoch r, h.timers.watch r⟩, h.timers.millisecond, input, h.doneDue⟩

/-- The part is coherent as its blocks are in agreement, its clocks in range and its device reset as R168 and R169
say. -/
theorem StationsAgree.coherent (agree : StationsAgree s) (ranged : Ranged s) (links : LinksAgree s)
    (pool : PoolBounded s) (clocks : ∀ r, ClocksInRange (s.radio r))
    (millisecond : s.msPhase < Config.cyclesPerMs) (held : HeldInReset s) (doneDue : DoneDue s) :
    Coherent s where
  settings := ranged.settings
  counters := ranged.counters
  links := links
  pool := pool
  slots :=
    { queued := fun i => (agree.fits i).queued
      lent := fun r g hg => (agree.grants r g hg).lent
      released := agree.released }
  stations i := (agree.fits i).sound
  rings := agree.rings
  grants := { sound := fun r g hg => (agree.grants r g hg).sound, named := agree.named }
  timers :=
    { hold := fun i => (agree.fits i).hold
      settle := fun i => (agree.fits i).settle
      grant := fun r g hg => (agree.grants r g hg).timer
      epoch := fun r => (clocks r).epoch
      millisecond := millisecond
      watch := fun r => (clocks r).watch }
  held := held
  doneDue := doneDue

/-- Outside the reset input's hold nothing is asked of the reset values. -/
theorem Paced.coherent (paced : Paced s) (ranged : Ranged s) (links : LinksAgree s) (pool : PoolBounded s)
    (agree : StationsAgree s) : Coherent s :=
  agree.coherent ranged links pool paced.radios paced.millisecond
    (fun low => nomatch paced.input.symm.trans low) paced.doneDue

/-! ### At the reset values -/

/-- With the reset values in every block the part is coherent, whatever the inputs' pins and the queue are: no
station is admitted, no slot is in use, both links are DOWN and the settings hold their defaults. -/
theorem AtReset.coherent (h : AtReset s) : Coherent s := by
  have ⟨input, pin, choices, pending, eq⟩ := h
  have radio : ∀ r, s.radio r = RadioUnit.reset := fun r => by rw [eq]; cases r <;> rfl
  have stations : s.stations = State.reset.stations := by rw [eq]
  have released : s.releaseList = [] := by rw [eq]; rfl
  refine (stationsAgree_of_reset stations radio released).coherent
    (.reset radio (by rw [eq]; rfl) (by rw [eq]; rfl) (by rw [eq]; rfl))
    (linksAgree_of_reset radio (by rw [eq]; rfl)) ?_ (fun r => ?_) ?_ h.held fun due => ?_
  · exact (Nat.le_of_eq (inUse_reset stations radio released)).trans (Nat.zero_le _)
  · rw [radio]
    exact clocksInRange_reset
  · rw [eq]
    exact (by decide : 0 < Config.cyclesPerMs)
  · rw [eq] at due
    exact nomatch due

/-- Settles O56. -/
theorem coherentAtReset : Obligations.CoherentAtReset := AtReset.reset.coherent

/-! ### Every step -/

theorem exec_keeps_coherent (c : Instr) (s t : State) (h : Coherent s) (e : exec c s = .next t) :
    Coherent t := by
  by_cases low : s.resetInput = false
  · exact (exec_keeps_atReset low (h.held.atReset low) e).coherent
  by_cases input : c = .resetInputLow
  · subst input
    cases e
    exact AtReset.coherent ⟨_, _, _, _, rfl⟩
  · rw [Bool.not_eq_false] at low
    exact (exec_keeps_paced c s t (h.paced low) h.ranged input e).coherent
      (exec_keeps_ranged c s t h.ranged e) (exec_keeps_linksAgree c s t h.links e)
      (exec_keeps_poolBounded c s t h.pool e) (exec_keeps_stationsAgree c s t h.agree h.ranged e)

theorem Coherent.queue (h : Coherent s) (cs : List Instr) : Coherent { s with pending := cs } := by
  by_cases low : s.resetInput = false
  · obtain ⟨_, _, _, _, eq⟩ := h.held.atReset low
    exact AtReset.coherent ⟨_, _, _, _, by rw [eq]⟩
  · rw [Bool.not_eq_false] at low
    exact ((h.paced low).pending cs).coherent
      (h.ranged.of_eq rfl rfl rfl fun r => by cases r <;> exact ⟨rfl, rfl, rfl⟩)
      ((s.sameLinks_pending cs).agree h.links) h.pool (h.agree.pending cs)

theorem Coherent.counted (h : Coherent s) (n : Nat) : Coherent { s.counted with choices := n } := by
  by_cases low : s.resetInput = false
  · obtain ⟨_, _, _, _, eq⟩ := h.held.atReset low
    have still : s.counted = s := by rw [State.counted, low]; rfl
    exact AtReset.coherent ⟨_, _, _, _, by rw [still, eq]⟩
  · rw [Bool.not_eq_false] at low
    exact ((h.paced low).counted n).coherent (h.ranged.counted n)
      ((s.sameLinks_counted.trans (State.sameLinks_choices _ n)).agree h.links)
      ((Nat.le_of_eq (inUse_counted s)).trans h.pool) (h.agree.counted n)

/-- Settles O55: outside the reset input's hold each part of the invariant is kept by itself, given the ranges of
the settings; while it holds the part stays at its reset values, which are coherent. -/
theorem coherentKept : Obligations.CoherentKept := fun _ _ h e =>
  step_keeps exec_keeps_coherent (fun _ cs ha => ha.queue cs) (fun _ n ha => ha.counted n) h e

end Sys2Proof.Safety
end
